-- ==== Sys2Proof/Word.lean ====
section
/-! DEFINITION. The widths the spec gives: a byte, a register offset, a transaction descriptor, a descriptor's KIND. -/

namespace Sys2Proof

/-- Every register and every datum of a transaction is one unsigned byte, bit 0 the least significant (R9, R11). -/
abbrev Byte := BitVec 8

/-- A register offset, an unsigned 8-bit value 0..255 (R44). -/
abbrev Offset := BitVec 8

/-- A transaction descriptor `D[18:0]` (R60). -/
abbrev Descriptor := BitVec 19

/-- The KIND field `D[18:17]` of a descriptor (R60). -/
abbrev Kind := BitVec 2

end Sys2Proof
end

