-- ==== Sys2Proof/Config.lean ====
section
/-! DEFINITION. What the spec leaves to the environment or to the implementation: the error payload types, the open
parameters (R10) and the answers of the two capabilities (R109). The constants of `Config` are opaque: no value of
theirs can be evaluated or proved. Whatever carries a payload takes the types E_SIG and E_IO as arguments (R10, D11). -/

namespace Sys2Proof

/-- What a capability call answers: `ok` or `err(e)` (R15). -/
inductive Answer (ε : Type) where
  | ok
  | err (e : ε)
  deriving DecidableEq, Repr, Inhabited

/-- An error payload type that stands for one the spec leaves open: the numbers that code its values. Any nonempty set of
numbers can be the codes. -/
structure PayloadCodes where
  first : Nat
  others : Nat → Bool
  deriving Inhabited

/-- The values a payload type of these codes has. -/
abbrev PayloadCodes.Payload (c : PayloadCodes) : Type := { n : Nat // n = c.first ∨ c.others n = true }

/-- Some payload. -/
def PayloadCodes.some (c : PayloadCodes) : c.Payload := ⟨c.first, .inl rfl⟩

/-- A call of the Output Sink: offer one byte, or flush (R15). -/
inductive SinkCall where
  | write (b : Byte)
  | flush
  deriving DecidableEq, Repr

/-- The two open Boolean parameters of R10. -/
structure Params where
  /-- P_FULL_WRITE_SIGNALS: a loopback data write that is dropped still sets data-ready and triggers RDA (D14). -/
  fullWriteSignals : Bool
  /-- P_EMPTY_INJECT: an empty injection outside loopback still sets data-ready and triggers RDA (D15). -/
  emptyInject : Bool
  deriving DecidableEq, Repr, Inhabited

namespace Config

/-- The open parameters of this machine (R10, I4, I5): the spec gives no value, so none can be proved (log 4). -/
opaque params : Params

/-- The codes of this machine's E_SIG: which and how many they are cannot be proved (R10, D11; log 3). -/
opaque sigErrors : PayloadCodes

/-- The codes of this machine's E_IO (R10, D11; log 3). -/
opaque ioErrors : PayloadCodes

/-- The Interrupt Signal's answer to its `n`-th call that no listed answer serves: a draw (R109, I3; log 5). -/
opaque freeSignalAnswer (E_SIG : Type) : Nat → Answer E_SIG

/-- The Output Sink's answer to its `n`-th call that no listed answer serves: a draw (R109, I3; log 5). -/
opaque freeSinkAnswer (E_IO : Type) : Nat → SinkCall → Answer E_IO

end Config

/-- E_SIG of this machine, the Interrupt Signal's own error type (R10, R105): the argument that `Machine.State`
gives `Uart.State`. DESIGN CHOICE (log 3), safe: opaque, comparable and writable as data, inspected by nothing. -/
abbrev SigError : Type := Config.sigErrors.Payload

/-- E_IO of this machine, the Output Sink's I/O error type (R10, R105). DESIGN CHOICE (log 3), as `SigError`. -/
abbrev IoError : Type := Config.ioErrors.Payload

end Sys2Proof
end

