-- ==== Sys2Proof/Machine/Flags.lean ====
section
/-! DEFINITION. The registers' bits (R25 and the field tables of R26 to R34), the reset bytes (R43), and every flag
computation of the spec as a function on bytes (R72, R73, R77, R78). The positions the spec marks as general knowledge
(R25, D2) and the numerals of R43 (D3) are taken as the spec states them (log 1, log 2). -/

namespace Sys2Proof.Machine

/-- "AND-NOT" of two bytes, `a & ~m` (R12). -/
def andNot (a m : Byte) : Byte := a &&& ~~~m

/-! ### IER (R28) -/
/-- Bit 0, ERBFI: received-data interrupt enable. -/
def ierRda : Byte := 0x01#8
/-- Bit 1, ETBEI: THR-empty interrupt enable. -/
def ierThre : Byte := 0x02#8
/-- Bit 2, ELSI: stored, no effect. -/
def ierElsi : Byte := 0x04#8
/-- Bit 3, EDSSI: stored, no effect. -/
def ierEdssi : Byte := 0x08#8
/-- The four legacy-valid bits 3..0. -/
def ierValid : Byte := 0x0F#8

/-! ### IIR (R29) -/
/-- Bit 0, the "no interrupt" sentinel. -/
def iirNone : Byte := 0x01#8
/-- Bit 1, the THR-empty cause. -/
def iirThre : Byte := 0x02#8
/-- Bit 2, the received-data cause. -/
def iirRda : Byte := 0x04#8
/-- Bits 7..6, the two fixed FIFO-capability bits of the readback. -/
def fifoEnabledBits : Byte := 0xC0#8

/-! ### LCR (R30): only DLAB has an effect -/
/-- Bits 1..0, WLS, word length select. -/
def lcrWls : Byte := 0x03#8
/-- Bit 2, STB. -/
def lcrStb : Byte := 0x04#8
/-- Bit 3, PEN. -/
def lcrPen : Byte := 0x08#8
/-- Bit 4, EPS. -/
def lcrEps : Byte := 0x10#8
/-- Bit 5, stick parity. -/
def lcrStickParity : Byte := 0x20#8
/-- Bit 6, set break. -/
def lcrSetBreak : Byte := 0x40#8
/-- Bit 7, DLAB. -/
def lcrDlab : Byte := 0x80#8

/-! ### LSR (R31): only DR ever changes -/
/-- Bit 0, data ready. -/
def lsrDr : Byte := 0x01#8
/-- Bit 1, overrun error. -/
def lsrOe : Byte := 0x02#8
/-- Bit 2, parity error. -/
def lsrPe : Byte := 0x04#8
/-- Bit 3, framing error. -/
def lsrFe : Byte := 0x08#8
/-- Bit 4, break interrupt. -/
def lsrBi : Byte := 0x10#8
/-- Bit 5, THR empty. -/
def lsrThre : Byte := 0x20#8
/-- Bit 6, transmitter idle. -/
def lsrTemt : Byte := 0x40#8
/-- Bit 7, receive FIFO error. -/
def lsrFifoError : Byte := 0x80#8

/-! ### MCR (R32) -/
/-- Bit 0, DTR. -/
def mcrDtr : Byte := 0x01#8
/-- Bit 1, RTS. -/
def mcrRts : Byte := 0x02#8
/-- Bit 2, OUT1. -/
def mcrOut1 : Byte := 0x04#8
/-- Bit 3, OUT2. -/
def mcrOut2 : Byte := 0x08#8
/-- Bit 4, LOOP, loopback enable. -/
def mcrLoop : Byte := 0x10#8

/-! ### MSR (R33) -/
/-- Bit 0, DCTS. -/
def msrDcts : Byte := 0x01#8
/-- Bit 1, DDSR. -/
def msrDdsr : Byte := 0x02#8
/-- Bit 2, TERI. -/
def msrTeri : Byte := 0x04#8
/-- Bit 3, DDCD. -/
def msrDdcd : Byte := 0x08#8
/-- Bit 4, CTS. -/
def msrCts : Byte := 0x10#8
/-- Bit 5, DSR. -/
def msrDsr : Byte := 0x20#8
/-- Bit 6, RI. -/
def msrRi : Byte := 0x40#8
/-- Bit 7, DCD. -/
def msrDcd : Byte := 0x80#8

/-- FIFO_CAP, the bound on the queue length that a loopback data write respects (R9, R25). -/
def fifoCap : Nat := 64

/-! ### Reset bytes (R43, R123) -/
/-- The low byte of the divisor that encodes 9600 baud, 12 (R26, R43). -/
def resetDll : Byte := 0x0C#8
/-- The high byte of that divisor (R27, R43). -/
def resetDlm : Byte := 0x00#8
/-- "interrupt enable = 0". -/
def resetIer : Byte := 0x00#8
/-- "identification = 'none'". -/
def resetIir : Byte := iirNone
/-- "line control = 8-bit word length". -/
def resetLcr : Byte := 0x03#8
/-- "line status = THR-empty+idle". -/
def resetLsr : Byte := lsrThre ||| lsrTemt
/-- "modem control = OUT2 asserted". -/
def resetMcr : Byte := mcrOut2
/-- "modem status = DSR+CTS+DCD asserted". -/
def resetMsr : Byte := msrDsr ||| msrCts ||| msrDcd
/-- "scratch = 0". -/
def resetScr : Byte := 0x00#8

/-! ### Interrupt causes (R72, R73, R110) -/

/-- The two interrupt causes the block tracks (R9, R110). -/
inductive Cause where
  | rda   -- received data available
  | thre  -- transmitter holding register empty
  deriving DecidableEq, Repr

/-- The cause's outstanding flag in IIR (R110). -/
def causeBit : Cause → Byte
  | .rda => iirRda
  | .thre => iirThre

/-- The cause's enable in IER (R110). -/
def enableBit : Cause → Byte
  | .rda => ierRda
  | .thre => ierThre

/-- `(ier & enable) != 0`: the cause is enabled (R75, R76). -/
def enabledIn (c : Cause) (ier : Byte) : Bool := ier &&& enableBit c != 0#8

/-- `(iir & cause) != 0`: the cause is outstanding (R75, R76). -/
def outstandingIn (c : Cause) (iir : Byte) : Bool := iir &&& causeBit c != 0#8

/-- `add_cause` on the stored IIR: NONE is cleared, the cause is set, the other cause stays (R72). -/
def withCause (c : Cause) (iir : Byte) : Byte := andNot iir iirNone ||| causeBit c

/-- `del_cause` on the stored IIR: the cause is cleared; NONE is restored when nothing remains (R73). -/
def withoutCause (c : Cause) (iir : Byte) : Byte :=
  if andNot iir (causeBit c) = 0#8 then iirNone else andNot iir (causeBit c)

/-! ### Line and modem status (R77, R78) -/

/-- `set_dr` on LSR (R77). -/
def withDr (lsr : Byte) : Byte := lsr ||| lsrDr

/-- `clear_dr` on LSR (R77). -/
def withoutDr (lsr : Byte) : Byte := andNot lsr lsrDr

/-- `dst` when `src` is set in `v`, else nothing: one mirrored line of R78. -/
def mirror (v src dst : Byte) : Byte := if v &&& src != 0#8 then dst else 0#8

/-- The modem status that loopback synthesises from MCR: CTS mirrors RTS, DSR mirrors DTR, RI mirrors OUT1, DCD
mirrors OUT2, and bits 3..0 read 0 (R78). -/
def loopbackMsr (mcr : Byte) : Byte :=
  mirror mcr mcrRts msrCts ||| mirror mcr mcrDtr msrDsr ||| mirror mcr mcrOut1 msrRi ||| mirror mcr mcrOut2 msrDcd

end Sys2Proof.Machine
end

