-- ==== Sys2Proof/Syntax.lean ====
section
/-! DEFINITION. The transactions of the block: one constructor per row of spec/opcode_table.json (R65). -/

namespace Sys2Proof

/-- A decoded transaction. Operands are those the transaction's own rule lists: `v` is the written byte `D[7:0]`,
`off` the undecoded offset `D[15:8]` (only the two NOP rows keep it), `payload` the bytes an injection carries beside
its descriptor (R60, R63). The block executes transactions, not instructions; the host's word for one is `Instr`. -/
inductive Instr where
  | wrDll (v : Byte)                -- WR_DLL, R79
  | wrDlm (v : Byte)                -- WR_DLM, R80
  | wrThr (v : Byte)                -- WR_THR, R81
  | wrIer (v : Byte)                -- WR_IER, R82
  | wrIir (v : Byte)                -- WR_IIR, R83
  | wrLcr (v : Byte)                -- WR_LCR, R84
  | wrMcr (v : Byte)                -- WR_MCR, R85
  | wrLsr (v : Byte)                -- WR_LSR, R86
  | wrMsr (v : Byte)                -- WR_MSR, R87
  | wrScr (v : Byte)                -- WR_SCR, R88
  | wrNop (off : Offset) (v : Byte) -- WR_NOP, R89
  | rdDll                           -- RD_DLL, R91
  | rdDlm                           -- RD_DLM, R92
  | rdRbr                           -- RD_RBR, R93
  | rdIer                           -- RD_IER, R94
  | rdIir                           -- RD_IIR, R95
  | rdLcr                           -- RD_LCR, R96
  | rdMcr                           -- RD_MCR, R97
  | rdLsr                           -- RD_LSR, R98
  | rdMsr                           -- RD_MSR, R99
  | rdScr                           -- RD_SCR, R100
  | rdNop (off : Offset)            -- RD_NOP, R101
  | inj (payload : List Byte)       -- INJ, R102
  deriving DecidableEq, Repr

/-- The guest register reads (KIND 00). -/
def Instr.isRead : Instr → Bool
  | .rdDll | .rdDlm | .rdRbr | .rdIer | .rdIir | .rdLcr | .rdMcr | .rdLsr | .rdMsr | .rdScr | .rdNop _ => true
  | .wrDll _ | .wrDlm _ | .wrThr _ | .wrIer _ | .wrIir _ | .wrLcr _ | .wrMcr _ | .wrLsr _ | .wrMsr _ | .wrScr _
  | .wrNop _ _ | .inj _ => false

end Sys2Proof
end

