-- ==== Sys2Proof/Machine/State.lean ====
section
/-! DEFINITION. The state of the block (R20), what its callers have asked of it, what its environment answers and what
it has been seen to do, all as plain data; the reasons a step can stop; the state after reset (R43, R123). -/

namespace Sys2Proof.Machine

/-- What a write or an injection answers (R62). -/
inductive Resp (E_SIG E_IO : Type) where
  | ok
  | errSignal (e : E_SIG)  -- ERR_SIGNAL(e): the Interrupt Signal failed (R105)
  | errIo (e : E_IO)       -- ERR_IO(e): the Output Sink failed (R105)
  deriving DecidableEq, Repr

/-- What a transaction returns: a read one byte, a write or an injection a `Resp` (R62). -/
inductive Response (E_SIG E_IO : Type) where
  | rdata (b : Byte)
  | status (r : Resp E_SIG E_IO)
  deriving DecidableEq, Repr

/-- What the outside sees the block do, one at a time: a capability call with its answer (R15), or the response that
ends a transaction (R62). -/
inductive Event (E_SIG E_IO : Type) where
  | signal (a : Answer E_SIG)
  | sinkWrite (b : Byte) (a : Answer E_IO)
  | sinkFlush (a : Answer E_IO)
  | response (r : Response E_SIG E_IO)
  deriving DecidableEq, Repr

/-- A request at the register port or the host port (R118): the fields of a descriptor but DL, which the block inserts
and no caller supplies (R60, R61). `width` is the width in bits of a datum it moves; the block knows only 8 (R50). -/
structure Request where
  width : Nat
  kind : Kind
  off : Offset
  data : Byte
  payload : List Byte
  deriving DecidableEq, Repr

/-- What a caller does at the block's ports: a request, or a use of the signal accessor, which is wiring (R103). -/
inductive Input where
  | access (r : Request)
  | signalAccessor
  deriving DecidableEq, Repr

/-- The snapshot record: one field per register and the receive queue (R20). -/
structure Snapshot where
  dll : Byte
  dlm : Byte
  ier : Byte
  iir : Byte
  lcr : Byte
  lsr : Byte
  mcr : Byte
  msr : Byte
  scr : Byte
  rxq : List Byte
  deriving DecidableEq, Repr

namespace Uart

/-- The machine. The first ten fields are the block's whole architectural state (R20); the others are the model's own:
the open parameters (R10; log 4), the inputs not yet executed in the one order the host gives them (R55; log 6), the
environment's answers (R109; log 5) and what has been seen so far (log 7). The error payload types are its arguments
(R10, D11). -/
structure State (E_SIG E_IO : Type) where
  /-- Divisor latch low byte (R26). -/
  dll : Byte
  /-- Divisor latch high byte (R27). -/
  dlm : Byte
  /-- Interrupt enable (R28). -/
  ier : Byte
  /-- The stored interrupt-cause byte, not the readback (R29). -/
  iir : Byte
  /-- Line control (R30). -/
  lcr : Byte
  /-- Line status (R31). -/
  lsr : Byte
  /-- Modem control (R32). -/
  mcr : Byte
  /-- The stored modem status, masked in loopback (R33). -/
  msr : Byte
  /-- Scratch (R34). -/
  scr : Byte
  /-- The receive queue RXQ, oldest byte first, unbounded (R35). -/
  rxq : List Byte
  /-- The open parameters, which no step changes (R10, R21). -/
  params : Params
  /-- Inputs the callers have issued and the block has not executed, oldest first (R23, R54, R55). -/
  pending : List Input
  /-- The Interrupt Signal's answers to its next calls, first call first (R109). -/
  signalAnswers : List (Answer E_SIG)
  /-- The Output Sink's answers to its next calls, first call first (R109). -/
  sinkAnswers : List (Answer E_IO)
  /-- How many Signal() calls a free value has answered. -/
  signalDraws : Nat
  /-- How many Output Sink calls a free value has answered. -/
  sinkDraws : Nat
  /-- Every capability call and every response so far, oldest first; nothing reads it. -/
  trace : List (Event E_SIG E_IO)
  deriving DecidableEq, Repr

end Uart

/-- The state of this machine: the block's at this machine's own E_SIG and E_IO (log 3). -/
abbrev State : Type := Uart.State SigError IoError

/-- Why the machine stops with a fault: never. No transaction traps (R67) and "no case of this block uses this
treatment" (93_implementation_defined.md section 1): failures of the capabilities are responses (R105). -/
inductive Fault where
  deriving DecidableEq, Repr

/-- Why a step is refused. -/
inductive Refusal where
  /-- Raised by an arm of `exec` that has no meaning yet (none is left); safe: nothing is proved of it. -/
  | notModelled (mnemonic : String)
  /-- Raised by the fetch of a request whose KIND is 0b11, which is reserved (R66, D24); safe. -/
  | reservedKind
  /-- Raised by the fetch of a request that moves data of another width than 8 bits (R50, D6); safe. -/
  | accessWidth (bits : Nat)
  /-- Raised by `launch` for a restored record that breaks the invariants of 10_state.md section 7 (R104, I6); safe. -/
  | brokenSnapshot
  deriving DecidableEq, Repr

/-- The block as created, with its fixed default snapshot (R43, R123). The model's own fields: the open parameters are
the opaque `Config.params` (log 4); nothing is pending, no answer is listed, nothing has been drawn or seen (log 8). -/
def State.reset : State where
  dll := resetDll
  dlm := resetDlm
  ier := resetIer
  iir := resetIir
  lcr := resetLcr
  lsr := resetLsr
  mcr := resetMcr
  msr := resetMsr
  scr := resetScr
  rxq := []
  params := Config.params
  pending := []
  signalAnswers := []
  sinkAnswers := []
  signalDraws := 0
  sinkDraws := 0
  trace := []

end Sys2Proof.Machine
end

