-- ==== Sys2Proof/Machine/Ops.lean ====
section
/-! DEFINITION. The operations the transactions share: register and queue updates (R13, R14), the capability calls
(R15, R109), the internal procedures (R70 to R78), raising an interrupt and acknowledging one (R115, R116), responding
(R62), and the launch from reset or from a restored record (R104). -/

namespace Sys2Proof.Machine

variable {E_SIG E_IO : Type}

/-- The outcome of a transaction of this block. -/
abbrev Result (E_SIG E_IO : Type) := Host.Outcome (Uart.State E_SIG E_IO) Fault Refusal

/-! ### Register and queue updates (R13, R14) -/

/-- `DLL <- v`. -/
def Uart.State.setDll (s : Uart.State E_SIG E_IO) (v : Byte) : Uart.State E_SIG E_IO := { s with dll := v }
/-- `DLM <- v`. -/
def Uart.State.setDlm (s : Uart.State E_SIG E_IO) (v : Byte) : Uart.State E_SIG E_IO := { s with dlm := v }
/-- `IER <- v`. -/
def Uart.State.setIer (s : Uart.State E_SIG E_IO) (v : Byte) : Uart.State E_SIG E_IO := { s with ier := v }
/-- `IIR <- v`. -/
def Uart.State.setIir (s : Uart.State E_SIG E_IO) (v : Byte) : Uart.State E_SIG E_IO := { s with iir := v }
/-- `LCR <- v`. -/
def Uart.State.setLcr (s : Uart.State E_SIG E_IO) (v : Byte) : Uart.State E_SIG E_IO := { s with lcr := v }
/-- `LSR <- v`. -/
def Uart.State.setLsr (s : Uart.State E_SIG E_IO) (v : Byte) : Uart.State E_SIG E_IO := { s with lsr := v }
/-- `MCR <- v`. -/
def Uart.State.setMcr (s : Uart.State E_SIG E_IO) (v : Byte) : Uart.State E_SIG E_IO := { s with mcr := v }
/-- `SCR <- v`. -/
def Uart.State.setScr (s : Uart.State E_SIG E_IO) (v : Byte) : Uart.State E_SIG E_IO := { s with scr := v }
/-- `RXQ <- q`. -/
def Uart.State.setRxq (s : Uart.State E_SIG E_IO) (q : List Byte) : Uart.State E_SIG E_IO := { s with rxq := q }
/-- The inputs still to be executed. -/
def Uart.State.setPending (s : Uart.State E_SIG E_IO) (l : List Input) : Uart.State E_SIG E_IO := { s with pending := l }
/-- One more event is seen. -/
def Uart.State.emit (s : Uart.State E_SIG E_IO) (e : Event E_SIG E_IO) : Uart.State E_SIG E_IO :=
  { s with trace := s.trace ++ [e] }

/-- `append(RXQ, b)`: the bytes `b` join the tail in order; `push_back` is the case of one byte (R14). -/
def Uart.State.enqueue (s : Uart.State E_SIG E_IO) (b : List Byte) : Uart.State E_SIG E_IO := s.setRxq (s.rxq ++ b)

/-- `pop_front(RXQ)`: the head leaves; an empty queue stays empty (R14). -/
def Uart.State.dequeue (s : Uart.State E_SIG E_IO) : Uart.State E_SIG E_IO := s.setRxq s.rxq.tail

/-- The byte `pop_front(RXQ)` yields, 0x00 when it yields none (R93). -/
def Uart.State.front (s : Uart.State E_SIG E_IO) : Byte := s.rxq.headD 0x00#8

/-- The 16-bit divisor `DLM * 256 + DLL`; no transaction reads it (R27). -/
def Uart.State.divisor (s : Uart.State E_SIG E_IO) : BitVec 16 := s.dlm ++ s.dll

/-! ### Mode predicates (R70, R71) -/

/-- `dlab_set()`: `LCR[7] == 1` (R70). -/
def Uart.State.dlabSet (s : Uart.State E_SIG E_IO) : Bool := s.lcr &&& lcrDlab != 0#8

/-- `loop_mode()`: `MCR[4] == 1` (R71). -/
def Uart.State.loopMode (s : Uart.State E_SIG E_IO) : Bool := s.mcr &&& mcrLoop != 0#8

/-! ### Capability calls (R15, R109) -/

/-- The Interrupt Signal's answer to the next Signal(): the next listed one, else a free value (log 5). -/
def signalAnswer (s : Uart.State E_SIG E_IO) : Answer E_SIG :=
  match s.signalAnswers with
  | a :: _ => a
  | [] => Config.freeSignalAnswer E_SIG s.signalDraws

/-- The state after Signal() has answered: the answer is used up and the call is seen. -/
def callSignal (s : Uart.State E_SIG E_IO) : Uart.State E_SIG E_IO :=
  { s with
    signalAnswers := s.signalAnswers.tail
    signalDraws := if s.signalAnswers.isEmpty then s.signalDraws + 1 else s.signalDraws
    trace := s.trace ++ [.signal (signalAnswer s)] }

/-- The Output Sink's answer to the next call, which is `c`: the next listed one, else a free value (log 5). -/
def sinkAnswer (s : Uart.State E_SIG E_IO) (c : SinkCall) : Answer E_IO :=
  match s.sinkAnswers with
  | a :: _ => a
  | [] => Config.freeSinkAnswer E_IO s.sinkDraws c

/-- How an Output Sink call with its answer is seen. -/
def sinkEvent : SinkCall → Answer E_IO → Event E_SIG E_IO
  | .write b, a => .sinkWrite b a
  | .flush, a => .sinkFlush a

/-- The state after the Output Sink has answered the call `c`. -/
def callSink (s : Uart.State E_SIG E_IO) (c : SinkCall) : Uart.State E_SIG E_IO :=
  { s with
    sinkAnswers := s.sinkAnswers.tail
    sinkDraws := if s.sinkAnswers.isEmpty then s.sinkDraws + 1 else s.sinkDraws
    trace := s.trace ++ [sinkEvent c (sinkAnswer s c)] }

/-- What Signal()'s answer makes of the transaction: `raise SignalFailure(e)` on `err(e)` (R15, R75). -/
def respOfSignal : Answer E_SIG → Resp E_SIG E_IO
  | .ok => .ok
  | .err e => .errSignal e

/-! ### Interrupt causes: raising and acknowledging (R72 to R76, R115, R116) -/

/-- `add_cause(c)` (R72). -/
def addCause (c : Cause) (s : Uart.State E_SIG E_IO) : Uart.State E_SIG E_IO := s.setIir (withCause c s.iir)

/-- `del_cause(c)` (R73). -/
def delCause (c : Cause) (s : Uart.State E_SIG E_IO) : Uart.State E_SIG E_IO := s.setIir (withoutCause c s.iir)

/-- `reset_iir()` (R74). -/
def resetIirCauses (s : Uart.State E_SIG E_IO) : Uart.State E_SIG E_IO := s.setIir iirNone

/-- A triggering event of `c` makes one Signal() exactly when `c` is enabled and not outstanding (R111). -/
def fires (c : Cause) (s : Uart.State E_SIG E_IO) : Bool := enabledIn c s.ier && !outstandingIn c s.iir

/-- `trigger_rda()` and `trigger_thre()`, the block's whole interrupt entry: mark the cause, then call Signal(); a
failure of Signal() keeps the mark and is the transaction's response (R75, R76, R107, R115). -/
def trigger (c : Cause) (s : Uart.State E_SIG E_IO) : Uart.State E_SIG E_IO × Resp E_SIG E_IO :=
  if fires c s then (callSignal (addCause c s), respOfSignal (signalAnswer (addCause c s))) else (s, .ok)

/-! ### Line and modem status (R77, R78) -/

/-- `set_dr()` (R77). -/
def setDr (s : Uart.State E_SIG E_IO) : Uart.State E_SIG E_IO := s.setLsr (withDr s.lsr)

/-- `clear_dr()` (R77). -/
def clearDr (s : Uart.State E_SIG E_IO) : Uart.State E_SIG E_IO := s.setLsr (withoutDr s.lsr)

/-- The clear on a data read: DR goes when 0 or 1 entries remain (R93). -/
def clearDrIfDrained (s : Uart.State E_SIG E_IO) : Uart.State E_SIG E_IO := if s.rxq.length ≤ 1 then clearDr s else s

/-- `msr_value()` (R78). -/
def msrValue (s : Uart.State E_SIG E_IO) : Byte := if s.loopMode then loopbackMsr s.mcr else s.msr

/-- The common end of every append to the queue: data-ready is set and received-data is triggered (R77, R81, R102). -/
def announceData (s : Uart.State E_SIG E_IO) : Uart.State E_SIG E_IO × Resp E_SIG E_IO := trigger .rda (setDr s)

/-! ### Responses (R62) -/

/-- A write or an injection ends with the response its steps gave (R15, R62). -/
def complete (p : Uart.State E_SIG E_IO × Resp E_SIG E_IO) : Result E_SIG E_IO := .next (p.1.emit (.response (.status p.2)))

/-- A read ends with the byte `b` (R62, R90). -/
def returnByte (b : Byte) (s : Uart.State E_SIG E_IO) : Result E_SIG E_IO := .next (s.emit (.response (.rdata b)))

/-- The packed 2-bit status `ST` (R62, D11); 0b11 is never produced. -/
def statusCode : Resp E_SIG E_IO → BitVec 2
  | .ok => 0b00#2
  | .errSignal _ => 0b01#2
  | .errIo _ => 0b10#2

/-! ### Launch (R104) -/

/-- The block's record as the snapshot format has it (R20). -/
def Uart.State.snapshot (s : Uart.State E_SIG E_IO) : Snapshot where
  dll := s.dll
  dlm := s.dlm
  ier := s.ier
  iir := s.iir
  lcr := s.lcr
  lsr := s.lsr
  mcr := s.mcr
  msr := s.msr
  scr := s.scr
  rxq := s.rxq

/-- The block holding the record `r`, its parameters, callers and environment as in `s`. -/
def Uart.State.restore (s : Uart.State E_SIG E_IO) (r : Snapshot) : Uart.State E_SIG E_IO :=
  { s with
    dll := r.dll, dlm := r.dlm, ier := r.ier, iir := r.iir, lcr := r.lcr, lsr := r.lsr, mcr := r.mcr, msr := r.msr
    scr := r.scr, rxq := r.rxq }

/-- The invariants of 10_state.md section 7 on a record: R38, R39, R40, R41 (b), (c), (d) and R42. -/
abbrev RecordInv (p : Params) (r : Snapshot) : Prop :=
  (r.ier &&& 0xF0#8 = 0x00#8) ∧
  (r.lsr = 0x60#8 ∨ r.lsr = 0x61#8) ∧
  (r.iir = 0x01#8 ∨ r.iir = 0x02#8 ∨ r.iir = 0x04#8 ∨ r.iir = 0x06#8) ∧
  (2 ≤ r.rxq.length → r.lsr = 0x61#8) ∧
  (p.emptyInject = false → r.lsr = 0x61#8 → 1 ≤ r.rxq.length) ∧
  (p.emptyInject = false → (r.iir = 0x04#8 ∨ r.iir = 0x06#8) → 1 ≤ r.rxq.length) ∧
  r.msr = 0xB0#8

/-- The launch: reset, or the state the RESTORE parameter supplies, whose capabilities are supplied anew; a record that
breaks the invariants is refused by name (R10, R104, I6; log 12). -/
def launch (restored : Option Snapshot) : Host.Outcome State Fault Refusal :=
  match restored with
  | none => .next State.reset
  | some r => if RecordInv Config.params r then .next (State.reset.restore r) else .refused .brokenSnapshot

end Sys2Proof.Machine
end

