-- ==== Sys2Proof/Machine/HostOps.lean ====
section
/-! DEFINITION. The host's transaction, bulk injection (R102). -/

namespace Sys2Proof.Machine

variable {E_SIG E_IO : Type}

/-- Injection outside loopback: an empty payload does nothing unless P_EMPTY_INJECT holds; else the whole payload is
appended with no cap, and data is announced once (R102, D15, D16). -/
def injectBytes (payload : List Byte) (s : Uart.State E_SIG E_IO) : Uart.State E_SIG E_IO × Resp E_SIG E_IO :=
  if payload.isEmpty && !s.params.emptyInject then (s, .ok) else announceData (s.enqueue payload)

/-- INJ: in loopback it changes nothing and answers OK (R102). -/
def execInj (payload : List Byte) (s : Uart.State E_SIG E_IO) : Result E_SIG E_IO :=
  complete (if s.loopMode then (s, .ok) else injectBytes payload s)

end Sys2Proof.Machine
end

