-- ==== Sys2Proof/Machine/Reads.lean ====
section
/-! DEFINITION. The register read transactions (R90 to R101). -/

namespace Sys2Proof.Machine

variable {E_SIG E_IO : Type}

/-- RD_DLL (R91). -/
def execRdDll (s : Uart.State E_SIG E_IO) : Result E_SIG E_IO := returnByte s.dll s

/-- RD_DLM (R92). -/
def execRdDlm (s : Uart.State E_SIG E_IO) : Result E_SIG E_IO := returnByte s.dlm s

/-- RD_RBR: acknowledge received-data, pop, and clear data-ready when 0 or 1 entries remain; the length is that after
the pop (R93; conflict C4). -/
def execRdRbr (s : Uart.State E_SIG E_IO) : Result E_SIG E_IO :=
  returnByte s.front (clearDrIfDrained (delCause .rda s).dequeue)

/-- RD_IER (R94). -/
def execRdIer (s : Uart.State E_SIG E_IO) : Result E_SIG E_IO := returnByte s.ier s

/-- RD_IIR: the stored causes with the FIFO-capability bits, then both causes are acknowledged (R95). -/
def execRdIir (s : Uart.State E_SIG E_IO) : Result E_SIG E_IO := returnByte (s.iir ||| fifoEnabledBits) (resetIirCauses s)

/-- RD_LCR (R96). -/
def execRdLcr (s : Uart.State E_SIG E_IO) : Result E_SIG E_IO := returnByte s.lcr s

/-- RD_MCR (R97). -/
def execRdMcr (s : Uart.State E_SIG E_IO) : Result E_SIG E_IO := returnByte s.mcr s

/-- RD_LSR: reading clears nothing (R98). -/
def execRdLsr (s : Uart.State E_SIG E_IO) : Result E_SIG E_IO := returnByte s.lsr s

/-- RD_MSR (R78, R99). -/
def execRdMsr (s : Uart.State E_SIG E_IO) : Result E_SIG E_IO := returnByte (msrValue s) s

/-- RD_SCR (R100). -/
def execRdScr (s : Uart.State E_SIG E_IO) : Result E_SIG E_IO := returnByte s.scr s

/-- RD_NOP: an undecoded offset reads 0x00 (R101). -/
def execRdNop (_off : Offset) (s : Uart.State E_SIG E_IO) : Result E_SIG E_IO := returnByte 0x00#8 s

end Sys2Proof.Machine
end

