-- ==== Sys2Proof/Machine/Writes.lean ====
section
/-! DEFINITION. The register write transactions (R79 to R89). -/

namespace Sys2Proof.Machine

variable {E_SIG E_IO : Type}

/-- A write that the block ignores: it answers OK and changes nothing (R83, R86, R87, R89). -/
def ignoreWrite (s : Uart.State E_SIG E_IO) : Result E_SIG E_IO := complete (s, .ok)

/-- WR_DLL (R79). -/
def execWrDll (v : Byte) (s : Uart.State E_SIG E_IO) : Result E_SIG E_IO := complete (s.setDll v, .ok)

/-- WR_DLM (R80). -/
def execWrDlm (v : Byte) (s : Uart.State E_SIG E_IO) : Result E_SIG E_IO := complete (s.setDlm v, .ok)

/-- The data-path write in loopback: a queue of fewer than 64 entries takes the byte, a full one drops it, and whether
the dropped byte still announces data is the open parameter P_FULL_WRITE_SIGNALS (R81, D14). -/
def loopbackWrite (v : Byte) (s : Uart.State E_SIG E_IO) : Uart.State E_SIG E_IO × Resp E_SIG E_IO :=
  if s.rxq.length < fifoCap then announceData (s.enqueue [v])
  else if s.params.fullWriteSignals then announceData s
  else (s, .ok)

/-- The data-path write outside loopback: the byte is written to the Output Sink and flushed, and the first failing
call ends the transaction; then THR-empty is triggered (R81, R114). -/
def transmit (v : Byte) (s : Uart.State E_SIG E_IO) : Uart.State E_SIG E_IO × Resp E_SIG E_IO :=
  match sinkAnswer s (.write v) with
  | .err e => (callSink s (.write v), .errIo e)
  | .ok =>
    match sinkAnswer (callSink s (.write v)) .flush with
    | .err e => (callSink (callSink s (.write v)) .flush, .errIo e)
    | .ok => trigger .thre (callSink (callSink s (.write v)) .flush)

/-- WR_THR (R81). -/
def execWrThr (v : Byte) (s : Uart.State E_SIG E_IO) : Result E_SIG E_IO :=
  complete (if s.loopMode then loopbackWrite v s else transmit v s)

/-- WR_IER: bits 7:4 are discarded, and enabling a cause triggers nothing (R82). -/
def execWrIer (v : Byte) (s : Uart.State E_SIG E_IO) : Result E_SIG E_IO := complete (s.setIer (v &&& ierValid), .ok)

/-- WR_IIR, ignored (R83). -/
def execWrIir (_v : Byte) (s : Uart.State E_SIG E_IO) : Result E_SIG E_IO := ignoreWrite s

/-- WR_LCR, stored raw (R84). -/
def execWrLcr (v : Byte) (s : Uart.State E_SIG E_IO) : Result E_SIG E_IO := complete (s.setLcr v, .ok)

/-- WR_MCR, stored raw (R85). -/
def execWrMcr (v : Byte) (s : Uart.State E_SIG E_IO) : Result E_SIG E_IO := complete (s.setMcr v, .ok)

/-- WR_LSR, ignored (R86). -/
def execWrLsr (_v : Byte) (s : Uart.State E_SIG E_IO) : Result E_SIG E_IO := ignoreWrite s

/-- WR_MSR, ignored (R87; conflict C3). -/
def execWrMsr (_v : Byte) (s : Uart.State E_SIG E_IO) : Result E_SIG E_IO := ignoreWrite s

/-- WR_SCR, stored raw (R88). -/
def execWrScr (v : Byte) (s : Uart.State E_SIG E_IO) : Result E_SIG E_IO := complete (s.setScr v, .ok)

/-- WR_NOP: no offset is reduced modulo 8 (R89). -/
def execWrNop (_off : Offset) (_v : Byte) (s : Uart.State E_SIG E_IO) : Result E_SIG E_IO := ignoreWrite s

end Sys2Proof.Machine
end

