-- ==== Sys2Proof/Machine/Dispatch.lean ====
section
/-! DEFINITION. One arm per transaction: its meaning, called by its full name. -/

namespace Sys2Proof.Machine

def exec (i : Instr) (s : State) : Host.Outcome State Fault Refusal :=
  match i with
  | .wrDll v => Sys2Proof.Machine.execWrDll v s
  | .wrDlm v => Sys2Proof.Machine.execWrDlm v s
  | .wrThr v => Sys2Proof.Machine.execWrThr v s
  | .wrIer v => Sys2Proof.Machine.execWrIer v s
  | .wrIir v => Sys2Proof.Machine.execWrIir v s
  | .wrLcr v => Sys2Proof.Machine.execWrLcr v s
  | .wrMcr v => Sys2Proof.Machine.execWrMcr v s
  | .wrLsr v => Sys2Proof.Machine.execWrLsr v s
  | .wrMsr v => Sys2Proof.Machine.execWrMsr v s
  | .wrScr v => Sys2Proof.Machine.execWrScr v s
  | .wrNop off v => Sys2Proof.Machine.execWrNop off v s
  | .rdDll => Sys2Proof.Machine.execRdDll s
  | .rdDlm => Sys2Proof.Machine.execRdDlm s
  | .rdRbr => Sys2Proof.Machine.execRdRbr s
  | .rdIer => Sys2Proof.Machine.execRdIer s
  | .rdIir => Sys2Proof.Machine.execRdIir s
  | .rdLcr => Sys2Proof.Machine.execRdLcr s
  | .rdMcr => Sys2Proof.Machine.execRdMcr s
  | .rdLsr => Sys2Proof.Machine.execRdLsr s
  | .rdMsr => Sys2Proof.Machine.execRdMsr s
  | .rdScr => Sys2Proof.Machine.execRdScr s
  | .rdNop off => Sys2Proof.Machine.execRdNop off s
  | .inj payload => Sys2Proof.Machine.execInj payload s

end Sys2Proof.Machine
end

