-- ==== Sys2Proof/WellFormed.lean ====
section
/-! DEFINITION. Which terms of `Instr` stand for a transaction: the two NOP rows hold only undecoded offsets 8..255. -/

namespace Sys2Proof

/-- R89, R101: a NOP row is reached only by an offset with `off >= 8`; every other operand takes every value of its
type (R63, R67), and an injection's payload has any length (R60, R102). -/
def Instr.wf : Instr → Bool
  | .wrNop off _ => 8 ≤ off.toNat
  | .rdNop off => 8 ≤ off.toNat
  | .wrDll _ | .wrDlm _ | .wrThr _ | .wrIer _ | .wrIir _ | .wrLcr _ | .wrMcr _ | .wrLsr _ | .wrMsr _ | .wrScr _ => true
  | .rdDll | .rdDlm | .rdRbr | .rdIer | .rdIir | .rdLcr | .rdMcr | .rdLsr | .rdMsr | .rdScr => true
  | .inj _ => true

end Sys2Proof
end

