-- ==== Sys2Proof/Decode.lean ====
section
/-! DEFINITION. The 19-bit descriptor (R60), decode as the spec's pseudocode has it (R64), the opcode table as rows of
match and mask (R65) with the first-match scan over them, and the encoder. -/

namespace Sys2Proof

/-! ### Fields (R60) -/

/-- `KIND = D[18:17]`. -/
def kindOf (d : Descriptor) : Kind := d.extractLsb' 17 2

/-- `DL = D[16]`, the value of LCR.DLAB when the transaction starts. -/
def dlOf (d : Descriptor) : Bool := d.getLsbD 16

/-- `OFF = D[15:8]`. -/
def offOf (d : Descriptor) : Offset := d.extractLsb' 8 8

/-- `DATA = D[7:0]`. -/
def dataOf (d : Descriptor) : Byte := d.extractLsb' 0 8

/-- The descriptor with the given fields. -/
def mkDescriptor (kind : Kind) (dl : Bool) (off : Offset) (data : Byte) : Descriptor :=
  kind ++ BitVec.ofBool dl ++ off ++ data

/-- KIND 0b00, a guest register read. -/
def kindRd : Kind := 0b00#2

/-- KIND 0b01, a guest register write. -/
def kindWr : Kind := 0b01#2

/-- KIND 0b10, a host injection. -/
def kindInj : Kind := 0b10#2

/-- KIND 0b11, reserved (R66). -/
def kindReserved : Kind := 0b11#2

/-! ### Decode (R64) -/

/-- What decode answers: a transaction, or the reserved KIND by name (R66). -/
inductive Decoded where
  | instr (i : Instr)
  | reservedKind
  deriving DecidableEq, Repr

/-- The WR rows of R64: DLAB is tested first at offsets 0 and 1; offsets above 7 do not alias (R47). -/
def decodeWrite (dl : Bool) (off : Offset) (v : Byte) : Instr :=
  if off = 0#8 then (if dl then .wrDll v else .wrThr v)
  else if off = 1#8 then (if dl then .wrDlm v else .wrIer v)
  else if off = 2#8 then .wrIir v
  else if off = 3#8 then .wrLcr v
  else if off = 4#8 then .wrMcr v
  else if off = 5#8 then .wrLsr v
  else if off = 6#8 then .wrMsr v
  else if off = 7#8 then .wrScr v
  else .wrNop off v

/-- The RD rows of R64. -/
def decodeRead (dl : Bool) (off : Offset) : Instr :=
  if off = 0#8 then (if dl then .rdDll else .rdRbr)
  else if off = 1#8 then (if dl then .rdDlm else .rdIer)
  else if off = 2#8 then .rdIir
  else if off = 3#8 then .rdLcr
  else if off = 4#8 then .rdMcr
  else if off = 5#8 then .rdLsr
  else if off = 6#8 then .rdMsr
  else if off = 7#8 then .rdScr
  else .rdNop off

/-- R64, total on every descriptor. `payload` is the byte sequence an injection carries beside D (R60). -/
def decode (d : Descriptor) (payload : List Byte) : Decoded :=
  if kindOf d = kindReserved then .reservedKind
  else if kindOf d = kindInj then .instr (.inj payload)
  else if kindOf d = kindWr then .instr (decodeWrite (dlOf d) (offOf d) (dataOf d))
  else .instr (decodeRead (dlOf d) (offOf d))

/-! ### The opcode table (R65) -/

/-- A row of the opcode map: a descriptor `D` matches when `D & mask = match`. -/
structure OpcodeRow where
  mnemonic : String
  matchBits : Descriptor
  mask : Descriptor
  build : Descriptor → List Byte → Instr

/-- The WR rows before WR_NOP. -/
def writeRows : List OpcodeRow :=
  [ ⟨"WR_DLL", 0x30000#19, 0x7FF00#19, fun d _ => .wrDll (dataOf d)⟩,
    ⟨"WR_DLM", 0x30100#19, 0x7FF00#19, fun d _ => .wrDlm (dataOf d)⟩,
    ⟨"WR_THR", 0x20000#19, 0x7FF00#19, fun d _ => .wrThr (dataOf d)⟩,
    ⟨"WR_IER", 0x20100#19, 0x7FF00#19, fun d _ => .wrIer (dataOf d)⟩,
    ⟨"WR_IIR", 0x20200#19, 0x6FF00#19, fun d _ => .wrIir (dataOf d)⟩,
    ⟨"WR_LCR", 0x20300#19, 0x6FF00#19, fun d _ => .wrLcr (dataOf d)⟩,
    ⟨"WR_MCR", 0x20400#19, 0x6FF00#19, fun d _ => .wrMcr (dataOf d)⟩,
    ⟨"WR_LSR", 0x20500#19, 0x6FF00#19, fun d _ => .wrLsr (dataOf d)⟩,
    ⟨"WR_MSR", 0x20600#19, 0x6FF00#19, fun d _ => .wrMsr (dataOf d)⟩,
    ⟨"WR_SCR", 0x20700#19, 0x6FF00#19, fun d _ => .wrScr (dataOf d)⟩ ]

/-- The RD rows before RD_NOP. -/
def readRows : List OpcodeRow :=
  [ ⟨"RD_DLL", 0x10000#19, 0x7FF00#19, fun _ _ => .rdDll⟩,
    ⟨"RD_DLM", 0x10100#19, 0x7FF00#19, fun _ _ => .rdDlm⟩,
    ⟨"RD_RBR", 0x00000#19, 0x7FF00#19, fun _ _ => .rdRbr⟩,
    ⟨"RD_IER", 0x00100#19, 0x7FF00#19, fun _ _ => .rdIer⟩,
    ⟨"RD_IIR", 0x00200#19, 0x6FF00#19, fun _ _ => .rdIir⟩,
    ⟨"RD_LCR", 0x00300#19, 0x6FF00#19, fun _ _ => .rdLcr⟩,
    ⟨"RD_MCR", 0x00400#19, 0x6FF00#19, fun _ _ => .rdMcr⟩,
    ⟨"RD_LSR", 0x00500#19, 0x6FF00#19, fun _ _ => .rdLsr⟩,
    ⟨"RD_MSR", 0x00600#19, 0x6FF00#19, fun _ _ => .rdMsr⟩,
    ⟨"RD_SCR", 0x00700#19, 0x6FF00#19, fun _ _ => .rdScr⟩ ]

/-- The last WR row: any offset not matched before it. -/
def wrNopRow : OpcodeRow := ⟨"WR_NOP", 0x20000#19, 0x60000#19, fun d _ => .wrNop (offOf d) (dataOf d)⟩

/-- The last RD row. -/
def rdNopRow : OpcodeRow := ⟨"RD_NOP", 0x00000#19, 0x60000#19, fun d _ => .rdNop (offOf d)⟩

/-- The injection row: every field but KIND is ignored. -/
def injRow : OpcodeRow := ⟨"INJ", 0x40000#19, 0x60000#19, fun _ payload => .inj payload⟩

/-- The 23 rows in the table's order (R65). -/
def opcodeTable : List OpcodeRow :=
  writeRows ++ [wrNopRow] ++ readRows ++ [rdNopRow] ++ [injRow]

/-- `(D & mask) == match` (R64 step 2). -/
def OpcodeRow.matchesWord (r : OpcodeRow) (d : Descriptor) : Bool := d &&& r.mask == r.matchBits

/-- The first row of the table that the descriptor matches (R64 step 2). -/
def firstRow (d : Descriptor) : Option OpcodeRow := opcodeTable.find? (fun r => r.matchesWord d)

/-! ### Encode (R60, R65) -/

/-- The descriptor and payload of a well-formed transaction. DESIGN CHOICE (log 9), safe: a bit its row does not care
about (DL at offsets 2..255 and in INJ, OFF in INJ, DATA in RD and INJ) is written 0. -/
def encode : Instr → Descriptor × List Byte
  | .wrDll v => (mkDescriptor kindWr true 0#8 v, [])
  | .wrDlm v => (mkDescriptor kindWr true 1#8 v, [])
  | .wrThr v => (mkDescriptor kindWr false 0#8 v, [])
  | .wrIer v => (mkDescriptor kindWr false 1#8 v, [])
  | .wrIir v => (mkDescriptor kindWr false 2#8 v, [])
  | .wrLcr v => (mkDescriptor kindWr false 3#8 v, [])
  | .wrMcr v => (mkDescriptor kindWr false 4#8 v, [])
  | .wrLsr v => (mkDescriptor kindWr false 5#8 v, [])
  | .wrMsr v => (mkDescriptor kindWr false 6#8 v, [])
  | .wrScr v => (mkDescriptor kindWr false 7#8 v, [])
  | .wrNop off v => (mkDescriptor kindWr false off v, [])
  | .rdDll => (mkDescriptor kindRd true 0#8 0#8, [])
  | .rdDlm => (mkDescriptor kindRd true 1#8 0#8, [])
  | .rdRbr => (mkDescriptor kindRd false 0#8 0#8, [])
  | .rdIer => (mkDescriptor kindRd false 1#8 0#8, [])
  | .rdIir => (mkDescriptor kindRd false 2#8 0#8, [])
  | .rdLcr => (mkDescriptor kindRd false 3#8 0#8, [])
  | .rdMcr => (mkDescriptor kindRd false 4#8 0#8, [])
  | .rdLsr => (mkDescriptor kindRd false 5#8 0#8, [])
  | .rdMsr => (mkDescriptor kindRd false 6#8 0#8, [])
  | .rdScr => (mkDescriptor kindRd false 7#8 0#8, [])
  | .rdNop off => (mkDescriptor kindRd false off 0#8, [])
  | .inj payload => (mkDescriptor kindInj false 0#8 0#8, payload)

/-! ### The host's question -/

/-- The transaction decode reads from the descriptor whose bits are `w`, numbered as the table numbers them. The bits
above `nbits` are 0, so an injection's payload is empty; a number with a bit above `D[18]` is no descriptor (log 9). -/
def decodeTableWord (nbits w : Nat) : Option Instr :=
  if w < 2 ^ (min nbits 19) then
    match decode (BitVec.ofNat 19 w) [] with
    | .instr i => some i
    | .reservedKind => none
  else none

end Sys2Proof
end

