-- ==== Sys2Proof/Machine/Operands.lean ====
section
/-! DEFINITION. How a request becomes a transaction: the one addressing mode is the absolute offset (R45), the block
inserts LCR.DLAB into the descriptor at the start (R61), and a step takes the oldest pending input (R54, R55). -/

namespace Sys2Proof.Machine

variable {E_SIG E_IO : Type}

/-- The descriptor of a request in a state: `D[16] = LCR[7]`, sampled once at the start (R60, R61). -/
def descriptorOf (r : Request) (s : Uart.State E_SIG E_IO) : Descriptor := mkDescriptor r.kind s.dlabSet r.off r.data

/-- What the block does next. -/
inductive Fetched (E_SIG E_IO : Type) where
  | idle                         -- no input is pending
  | wiring (s : Uart.State E_SIG E_IO)           -- the accessor was used: only the input is gone
  | run (i : Instr) (s : Uart.State E_SIG E_IO)  -- the transaction, and the state it starts in
  | refuse (r : Refusal)         -- an input the spec gives no meaning
  deriving DecidableEq, Repr

/-- The oldest pending input, decoded (R54, R61, R64). A width other than 8 (R50) and the reserved KIND (R66) are
refused by name; the signal accessor has no effect on the block and no response (R103). -/
def fetch (s : Uart.State E_SIG E_IO) : Fetched E_SIG E_IO :=
  match s.pending with
  | [] => .idle
  | .signalAccessor :: rest => .wiring (s.setPending rest)
  | .access r :: rest =>
    if r.width = 8 then
      match decode (descriptorOf r s) r.payload with
      | .instr i => .run i (s.setPending rest)
      | .reservedKind => .refuse .reservedKind
    else .refuse (.accessWidth r.width)

/-- The callers issue one more input, after all those already issued (R54, R55). -/
def Uart.State.issue (s : Uart.State E_SIG E_IO) (i : Input) : Uart.State E_SIG E_IO := s.setPending (s.pending ++ [i])

/-- The request whose fields, DL apart, are those of the descriptor `d`, with an empty payload. -/
def requestOf (d : Descriptor) : Request :=
  { width := 8, kind := kindOf d, off := offOf d, data := dataOf d, payload := [] }

/-- LCR with its DLAB bit at `dl` (`LCR.DLAB <- dl`, R13). -/
def withDlab (lcr : Byte) (dl : Bool) : Byte := if dl then lcr ||| lcrDlab else andNot lcr lcrDlab

/-- `s` with the descriptor numbered `w` as the very next one to be formed: its request stands first among the pending
inputs and LCR.DLAB, from which the block inserts DL, is `D[16]` (R60, R61). A number that is no descriptor is placed
as the reserved KIND, which fetch refuses as `decodeTableWord` does (log 9). -/
def placeWord (s : Uart.State E_SIG E_IO) (nbits w : Nat) : Uart.State E_SIG E_IO :=
  if w < 2 ^ (min nbits 19) then
    (s.setLcr (withDlab s.lcr (dlOf (BitVec.ofNat 19 w)))).setPending
      (.access (requestOf (BitVec.ofNat 19 w)) :: s.pending)
  else s.setPending (.access (requestOf (mkDescriptor kindReserved false 0#8 0#8)) :: s.pending)

end Sys2Proof.Machine
end

