-- ==== Sys2Proof/Machine/Step.lean ====
section
/-! DEFINITION. One step: the oldest pending input is fetched and, where it is a transaction, executed whole (R53). -/

namespace Sys2Proof.Machine

/-- One atomic step of the block (R53, R54). With no input pending the block stays as it is (log 6). -/
def step (s : State) : Host.Outcome State Fault Refusal :=
  match fetch s with
  | .idle => .next s
  | .wiring s' => .next s'
  | .run i s' => exec i s'
  | .refuse r => .refused r

/-- `s` with the descriptor numbered `w` (DL among its bits, payload empty) as its very next transaction (log 9). -/
def State.withFetchWord (s : State) (nbits w : Nat) : State := placeWord s nbits w

end Sys2Proof.Machine
end

