-- ==== Sys2Proof/Machine/Assembler.lean ====
section
/-! DEFINITION. The spec's notation for requests: `rd`, `wr`, `inj` with the offset aliases (R68), and the
pseudo-transactions as the requests they expand to (R69). -/

namespace Sys2Proof.Machine

/-! ### Offset aliases (R68): an alias is only a number -/
/-- DATA = 0. -/
def offData : Offset := 0#8
/-- DLL = 0. -/
def offDll : Offset := 0#8
/-- DLM = 1. -/
def offDlm : Offset := 1#8
/-- IER = 1. -/
def offIer : Offset := 1#8
/-- IIR = 2. -/
def offIir : Offset := 2#8
/-- FCR = 2. -/
def offFcr : Offset := 2#8
/-- LCR = 3. -/
def offLcr : Offset := 3#8
/-- MCR = 4. -/
def offMcr : Offset := 4#8
/-- LSR = 5. -/
def offLsr : Offset := 5#8
/-- MSR = 6. -/
def offMsr : Offset := 6#8
/-- SCR = 7. -/
def offScr : Offset := 7#8

/-! ### Transactions (R68) -/
/-- `rd off`. -/
def rd (off : Offset) : Input := .access { width := 8, kind := kindRd, off := off, data := 0#8, payload := [] }
/-- `wr off, v`. -/
def wr (off : Offset) (v : Byte) : Input :=
  .access { width := 8, kind := kindWr, off := off, data := v, payload := [] }
/-- `inj [b0, b1, ...]`. -/
def injReq (b : List Byte) : Input :=
  .access { width := 8, kind := kindInj, off := 0#8, data := 0#8, payload := b }

/-! ### Pseudo-transactions (R69) -/
/-- `putc v`. -/
def pseudoPutc (v : Byte) : List Input := [wr offData v]
/-- `getc`. -/
def pseudoGetc : List Input := [rd offData]
/-- `ack`. -/
def pseudoAck : List Input := [rd offIir]
/-- `set_divisor lcr, d`. -/
def pseudoSetDivisor (lcr : Byte) (d : BitVec 16) : List Input :=
  [wr offLcr (lcr ||| 0x80#8), wr offDll (d.extractLsb' 0 8), wr offDlm (d.extractLsb' 8 8),
    wr offLcr (lcr &&& 0x7F#8)]
/-- `loop_on m`. -/
def pseudoLoopOn (m : Byte) : List Input := [wr offMcr (m ||| 0x10#8)]
/-- `loop_off m`. -/
def pseudoLoopOff (m : Byte) : List Input := [wr offMcr (m &&& 0xEF#8)]

end Sys2Proof.Machine
end

