-- ==== Sys2Proof/Safety.lean ====
section
/-! DEFINITION. The terms claims are stated in: the invariants of 10_state.md section 7, what the trace shows of a run,
the spec's trigger written once more, in the numerals of R25, for the statements to compare with, and the same machine at
other error payload types (R10). -/

namespace Sys2Proof.Machine

variable {E_SIG E_IO : Type}

/-- A safe state: the invariants R38 to R42 hold of the block's record. A run is safe while its states are; none can
fault, since `Fault` is empty. -/
abbrev SafeState (s : Uart.State E_SIG E_IO) : Prop := RecordInv s.params s.snapshot

/-- How many Signal() calls a trace shows. -/
def signalCount : List (Event E_SIG E_IO) → Nat
  | [] => 0
  | .signal _ :: l => signalCount l + 1
  | .sinkWrite _ _ :: l => signalCount l
  | .sinkFlush _ :: l => signalCount l
  | .response _ :: l => signalCount l

/-- The bytes a trace shows passed to SinkWrite, in order. -/
def sinkBytes : List (Event E_SIG E_IO) → List Byte
  | [] => []
  | .sinkWrite b _ :: l => b :: sinkBytes l
  | .signal _ :: l => sinkBytes l
  | .sinkFlush _ :: l => sinkBytes l
  | .response _ :: l => sinkBytes l

/-- The bytes a trace shows returned by reads, in order. -/
def readBytes : List (Event E_SIG E_IO) → List Byte
  | [] => []
  | .response (.rdata b) :: l => b :: readBytes l
  | .response (.status _) :: l => readBytes l
  | .signal _ :: l => readBytes l
  | .sinkWrite _ _ :: l => readBytes l
  | .sinkFlush _ :: l => readBytes l

/-- The event ends a transaction. -/
def Event.isResponse : Event E_SIG E_IO → Bool
  | .response _ => true
  | .signal _ | .sinkWrite _ _ | .sinkFlush _ => false

/-- The state a transaction ends in when, after its data effects have given `q`, it triggers the cause whose IER bit is
`enable` and whose IIR bit is `cause`: R75, R76, R72 and R62 in numerals. -/
def endOfTrigger (enable cause : Byte) (q : Uart.State E_SIG E_IO) : Uart.State E_SIG E_IO :=
  if q.ier &&& enable ≠ 0x00#8 ∧ q.iir &&& cause = 0x00#8 then
    { q with
      iir := (q.iir &&& 0xFE#8) ||| cause
      signalAnswers := q.signalAnswers.tail
      signalDraws := q.signalDraws + (1 - q.signalAnswers.length)
      trace := q.trace ++ [.signal (signalAnswer q), .response (.status (respOfSignal (signalAnswer q)))] }
  else { q with trace := q.trace ++ [.response (.status .ok)] }

/-- `s` having ended a transaction with the response `r` and nothing else. -/
def Uart.State.responded (s : Uart.State E_SIG E_IO) (r : Response E_SIG E_IO) : Uart.State E_SIG E_IO :=
  { s with trace := s.trace ++ [.response r] }

/-- `s` with every bit that is stored with no effect set to 0: DLL, DLM, SCR, LCR[6:0], MCR[7:5] and IER[3:2], with the bits
7:4 of IER that read 0 (R26 to R28, R30, R32, R34). -/
def Uart.State.withoutIdleBits (s : Uart.State E_SIG E_IO) : Uart.State E_SIG E_IO :=
  { s with
    dll := 0x00#8
    dlm := 0x00#8
    ier := s.ier &&& 0x03#8
    lcr := s.lcr &&& 0x80#8
    mcr := s.mcr &&& 0x1F#8
    scr := 0x00#8 }

/-- The last thing seen is the response `r`. -/
def Uart.State.endedWith (s : Uart.State E_SIG E_IO) (r : Response E_SIG E_IO) : Prop :=
  s.trace.getLast? = some (.response r)

/-- The outcome with `seen` put before whatever the next state's trace shows. -/
def afterSeeing (seen : List (Event E_SIG E_IO)) : Result E_SIG E_IO → Result E_SIG E_IO
  | .next t => .next { t with trace := seen ++ t.trace }
  | .fault r => .fault r
  | .refused r => .refused r

/-! ### The machine at any error payload types (R10, D11) -/

/-- What the transaction `i` does at the error payload types E_SIG and E_IO: `exec`'s meanings, which take the types as
arguments. -/
def execAt (i : Instr) (s : Uart.State E_SIG E_IO) : Result E_SIG E_IO :=
  match i with
  | .wrDll v => execWrDll v s
  | .wrDlm v => execWrDlm v s
  | .wrThr v => execWrThr v s
  | .wrIer v => execWrIer v s
  | .wrIir v => execWrIir v s
  | .wrLcr v => execWrLcr v s
  | .wrMcr v => execWrMcr v s
  | .wrLsr v => execWrLsr v s
  | .wrMsr v => execWrMsr v s
  | .wrScr v => execWrScr v s
  | .wrNop off v => execWrNop off v s
  | .rdDll => execRdDll s
  | .rdDlm => execRdDlm s
  | .rdRbr => execRdRbr s
  | .rdIer => execRdIer s
  | .rdIir => execRdIir s
  | .rdLcr => execRdLcr s
  | .rdMcr => execRdMcr s
  | .rdLsr => execRdLsr s
  | .rdMsr => execRdMsr s
  | .rdScr => execRdScr s
  | .rdNop off => execRdNop off s
  | .inj payload => execInj payload s

variable {E_SIG' E_IO' : Type}

/-- The same answer with its payload renamed. -/
def relabelAnswer {E E' : Type} (f : E → E') : Answer E → Answer E'
  | .ok => .ok
  | .err e => .err (f e)

/-- The same response with its payload renamed. -/
def Response.relabel (f : E_SIG → E_SIG') (g : E_IO → E_IO') : Response E_SIG E_IO → Response E_SIG' E_IO'
  | .rdata b => .rdata b
  | .status .ok => .status .ok
  | .status (.errSignal e) => .status (.errSignal (f e))
  | .status (.errIo e) => .status (.errIo (g e))

/-- The same event with its payload renamed. -/
def Event.relabel (f : E_SIG → E_SIG') (g : E_IO → E_IO') : Event E_SIG E_IO → Event E_SIG' E_IO'
  | .signal a => .signal (relabelAnswer f a)
  | .sinkWrite b a => .sinkWrite b (relabelAnswer g a)
  | .sinkFlush a => .sinkFlush (relabelAnswer g a)
  | .response r => .response (r.relabel f g)

/-- The same state with every payload in it renamed. -/
def Uart.State.relabel (f : E_SIG → E_SIG') (g : E_IO → E_IO') (s : Uart.State E_SIG E_IO) :
    Uart.State E_SIG' E_IO' where
  dll := s.dll
  dlm := s.dlm
  ier := s.ier
  iir := s.iir
  lcr := s.lcr
  lsr := s.lsr
  mcr := s.mcr
  msr := s.msr
  scr := s.scr
  rxq := s.rxq
  params := s.params
  pending := s.pending
  signalAnswers := s.signalAnswers.map (relabelAnswer f)
  sinkAnswers := s.sinkAnswers.map (relabelAnswer g)
  signalDraws := s.signalDraws
  sinkDraws := s.sinkDraws
  trace := s.trace.map (Event.relabel f g)

/-- The same outcome with every payload in it renamed. -/
def relabelResult (f : E_SIG → E_SIG') (g : E_IO → E_IO') : Result E_SIG E_IO → Result E_SIG' E_IO'
  | .next t => .next (t.relabel f g)
  | .fault r => .fault r
  | .refused r => .refused r

end Sys2Proof.Machine
end

