-- ==== Sys2Proof/Certificates/Slice0/Obligations.lean ====
section
/-! DEFINITION. What is to be proved of the model. Each statement's docstring names the rule of spec/ it formalises or
the rules and log entries it rests on. Register values are written in the numerals of R25 and R43. -/

open Sys2Proof Sys2Proof.Machine

/-! ### Reset and layout -/

/-- R43, R123: the block as created holds the default snapshot and has called nothing. The numerals of R43 are the
spec's own decision (D3; log 2). -/
def Obligations.ResetHoldsDefaultSnapshot : Prop :=
  State.reset.snapshot =
    { dll := 0x0C#8, dlm := 0x00#8, ier := 0x00#8, iir := 0x01#8, lcr := 0x03#8, lsr := 0x60#8, mcr := 0x08#8,
      msr := 0xB0#8, scr := 0x00#8, rxq := [] } ∧
  State.reset.trace = []

/-- R25: every named bit and bound has the value of the layout table, most of whose positions are the spec's own
decision (D2; log 1). -/
def Obligations.LayoutConstantsFollowTheTable : Prop :=
  ierRda = 0x01#8 ∧ ierThre = 0x02#8 ∧ ierValid = 0x0F#8 ∧
  iirNone = 0x01#8 ∧ iirThre = 0x02#8 ∧ iirRda = 0x04#8 ∧ fifoEnabledBits = 0xC0#8 ∧
  lcrDlab = 0x80#8 ∧ lsrDr = 0x01#8 ∧ lsrThre = 0x20#8 ∧ lsrTemt = 0x40#8 ∧
  mcrDtr = 0x01#8 ∧ mcrRts = 0x02#8 ∧ mcrOut1 = 0x04#8 ∧ mcrOut2 = 0x08#8 ∧ mcrLoop = 0x10#8 ∧
  msrCts = 0x10#8 ∧ msrDsr = 0x20#8 ∧ msrRi = 0x40#8 ∧ msrDcd = 0x80#8 ∧ fifoCap = 64

/-- R124, which the spec derives: what each read returns as the first transaction after reset, and the two divisor
latches after `wr LCR, 83`. -/
def Obligations.FirstReadsAfterReset : Prop :=
  let first := fun l => step (State.reset.setPending l)
  first [rd 5#8] = .next (State.reset.responded (.rdata 0x60#8)) ∧
  first [rd 2#8] = .next (State.reset.responded (.rdata 0xC1#8)) ∧
  first [rd 6#8] = .next (State.reset.responded (.rdata 0xB0#8)) ∧
  first [rd 3#8] = .next (State.reset.responded (.rdata 0x03#8)) ∧
  first [rd 4#8] = .next (State.reset.responded (.rdata 0x08#8)) ∧
  first [rd 1#8] = .next (State.reset.responded (.rdata 0x00#8)) ∧
  first [rd 7#8] = .next (State.reset.responded (.rdata 0x00#8)) ∧
  first [rd 0#8] = .next (State.reset.responded (.rdata 0x00#8)) ∧
  (∃ t, first [wr 3#8 0x83#8, rd 0#8, rd 1#8] = .next t ∧
    step t = .next { State.reset with
      lcr := 0x83#8, pending := [rd 1#8], trace := [.response (.status .ok), .response (.rdata 0x0C#8)] } ∧
    step { t with pending := [rd 1#8] } = .next { State.reset with
      lcr := 0x83#8, pending := [], trace := [.response (.status .ok), .response (.rdata 0x00#8)] })

/-! ### Encoding and decode -/

/-- R60, R65: no bit of an operand is dropped by encode and decode. -/
def Obligations.DecodeOfEncodeIsIdentity : Prop :=
  ∀ i : Instr, i.wf = true → decode (encode i).1 (encode i).2 = .instr i

/-- R64: decode is the first-match scan of the opcode table, KIND 11 apart; the scan always ends at the NOP rows, and
the rows before them are pairwise disjoint. -/
def Obligations.DecodeIsFirstMatchOfOpcodeTable : Prop :=
  (∀ d p, kindOf d = 0b11#2 → decode d p = .reservedKind) ∧
  (∀ d p, kindOf d ≠ 0b11#2 → ∃ r, firstRow d = some r ∧ decode d p = .instr (r.build d p)) ∧
  (∀ d, kindOf d = 0b01#2 → wrNopRow.matchesWord d = true) ∧
  (∀ d, kindOf d = 0b00#2 → rdNopRow.matchesWord d = true) ∧
  (writeRows ++ readRows ++ [injRow]).Pairwise fun r r' =>
    ∀ d, ¬(r.matchesWord d = true ∧ r'.matchesWord d = true)

/-- R60, R63, R64: what decode yields is well formed, and its encoding has the fields of the descriptor it came from,
but for those its row does not care about. -/
def Obligations.EncodeRestoresDecodedFields : Prop :=
  ∀ d p i, decode d p = .instr i →
    i.wf = true ∧ kindOf (encode i).1 = kindOf d ∧
    (kindOf d ≠ 0b10#2 → offOf (encode i).1 = offOf d) ∧
    (kindOf d ≠ 0b10#2 → (offOf d).toNat ≤ 1 → dlOf (encode i).1 = dlOf d) ∧
    (kindOf d = 0b01#2 → dataOf (encode i).1 = dataOf d) ∧
    (kindOf d = 0b10#2 → (encode i).2 = p)

/-- R60, R61: DL counts only at offsets 0 and 1, OFF only in reads and writes, DATA only in writes. -/
def Obligations.IgnoredBitsDoNotChangeDecoding : Prop :=
  ∀ d d' p, kindOf d = kindOf d' →
    (kindOf d ≠ 0b10#2 → offOf d = offOf d') →
    (kindOf d ≠ 0b10#2 → (offOf d).toNat ≤ 1 → dlOf d = dlOf d') →
    (kindOf d = 0b01#2 → dataOf d = dataOf d') →
    decode d p = decode d' p

/-- Words written out from R65 and 95_test_vectors.md decode to the transactions they stand for. -/
def Obligations.WrittenOutWordsDecode : Prop :=
  decode 0b0110000000011111111#19 [] = .instr (.wrDll 0xFF#8) ∧
  decode 0b0100000000001000001#19 [] = .instr (.wrThr 0x41#8) ∧
  decode 0b0100000000100000010#19 [] = .instr (.wrIer 0x02#8) ∧
  decode 0b0110000001100000011#19 [] = .instr (.wrLcr 0x03#8) ∧
  decode 0b0100000100001000001#19 [] = .instr (.wrNop 0x08#8 0x41#8) ∧
  decode 0b0010000000100000000#19 [] = .instr .rdDlm ∧
  decode 0b0000000000000000000#19 [] = .instr .rdRbr ∧
  decode 0b0010000001000000000#19 [] = .instr .rdIir ∧
  decode 0b0000000101000000000#19 [] = .instr (.rdNop 0x0A#8) ∧
  decode 0b1000000000000000000#19 [0x61#8, 0x62#8] = .instr (.inj [0x61#8, 0x62#8]) ∧
  decode 0b1100000000000000000#19 [] = .reservedKind

/-- R67: every read and write descriptor decodes to a row, no transaction traps, and the ignored writes and the
undecoded offsets are no-ops or zero reads. -/
def Obligations.NoDescriptorIsIllegal : Prop :=
  (∀ d p, kindOf d = 0b00#2 ∨ kindOf d = 0b01#2 → ∃ i, decode d p = .instr i) ∧
  (∀ (i : Instr) (s : State), ∃ t, exec i s = .next t) ∧
  (∀ (off : Offset) (v : Byte) (s : State),
    exec (.wrIir v) s = .next (s.responded (.status .ok)) ∧
    exec (.wrLsr v) s = .next (s.responded (.status .ok)) ∧
    exec (.wrMsr v) s = .next (s.responded (.status .ok)) ∧
    exec (.wrNop off v) s = .next (s.responded (.status .ok)) ∧
    exec (.rdNop off) s = .next (s.responded (.rdata 0x00#8)))

/-! ### The step -/

/-- R61, R64: a step takes the oldest request, inserts LCR bit 7 as DL, decodes, and executes the transaction in the
state without that request; nothing else surrounds it. -/
def Obligations.StepRunsDecodedTransaction : Prop :=
  ∀ (s : State) (r : Request) (rest : List Input) (i : Instr),
    s.pending = .access r :: rest → r.width = 8 →
    decode (mkDescriptor r.kind s.lcr[7] r.off r.data) r.payload = .instr i →
    step s = exec i { s with pending := rest }

/-- The model's choice (log 9): where the decoder reads the transaction `i` from a table word, the step after that word is
placed executes `i`, with LCR bit 7 set to the word's DL bit; where it reads none, the step is refused. -/
def Obligations.PlacedWordRunsNext : Prop :=
  ∀ (s : State) (nbits w : Nat),
    (∀ i, decodeTableWord nbits w = some i →
      step (s.withFetchWord nbits w) =
        exec i { s with lcr := if w.testBit 16 then s.lcr ||| 0x80#8 else s.lcr &&& 0x7F#8 }) ∧
    (decodeTableWord nbits w = none → step (s.withFetchWord nbits w) = .refused .reservedKind)

/-- The model's choice (log 6): with no input pending a step leaves the state as it is. -/
def Obligations.StepWithoutInputIdles : Prop :=
  ∀ s : State, s.pending = [] → step s = .next s

/-- R103, with D22: a use of the signal accessor changes nothing, calls nothing and returns no response; that it stands
among the pending inputs is the model's choice (log 11). -/
def Obligations.SignalAccessorHasNoEffect : Prop :=
  ∀ (s : State) (rest : List Input), s.pending = .signalAccessor :: rest →
    step s = .next { s with pending := rest }

/-- R66, with D24: a request of KIND 11 is refused by name, whatever its other fields. -/
def Obligations.ReservedKindIsRefused : Prop :=
  ∀ (s : State) (r : Request) (rest : List Input),
    s.pending = .access r :: rest → r.width = 8 → r.kind = 0b11#2 → step s = .refused .reservedKind

/-- R50, with D6: an access of another width than 8 bits is refused by name. -/
def Obligations.OtherWidthsAreRefused : Prop :=
  ∀ (s : State) (r : Request) (rest : List Input),
    s.pending = .access r :: rest → r.width ≠ 8 → step s = .refused (.accessWidth r.width)

/-- R46, R132: while DLAB is set, offsets 0 and 1 are the divisor latches only: nothing is sent or queued, no cause or
enable changes, and the answer is OK. -/
def Obligations.DlabSelectsDivisorLatches : Prop :=
  ∀ (s : State) (v : Byte) (rest : List Input), s.lcr[7] = true →
    step { s with pending := wr 0#8 v :: rest } =
      .next { s with pending := rest, dll := v, trace := s.trace ++ [.response (.status .ok)] } ∧
    step { s with pending := wr 1#8 v :: rest } =
      .next { s with pending := rest, dlm := v, trace := s.trace ++ [.response (.status .ok)] } ∧
    step { s with pending := rd 0#8 :: rest } =
      .next { s with pending := rest, trace := s.trace ++ [.response (.rdata s.dll)] } ∧
    step { s with pending := rd 1#8 :: rest } =
      .next { s with pending := rest, trace := s.trace ++ [.response (.rdata s.dlm)] }

/-- R46: while DLAB is clear, offset 0 is the data path and offset 1 is IER. -/
def Obligations.ClearDlabSelectsDataPathAndIer : Prop :=
  ∀ (s : State) (v : Byte) (rest : List Input), s.lcr[7] = false →
    step { s with pending := wr 0#8 v :: rest } = exec (.wrThr v) { s with pending := rest } ∧
    step { s with pending := rd 0#8 :: rest } = exec .rdRbr { s with pending := rest } ∧
    step { s with pending := wr 1#8 v :: rest } =
      .next { s with pending := rest, ier := v &&& 0x0F#8, trace := s.trace ++ [.response (.status .ok)] } ∧
    step { s with pending := rd 1#8 :: rest } =
      .next { s with pending := rest, trace := s.trace ++ [.response (.rdata s.ier)] }

/-- R61, R84, R126: a new DLAB decides the very next transaction, whatever DLAB was before. -/
def Obligations.NewDlabDecidesNextTransaction : Prop :=
  ∀ (s : State) (v x : Byte) (rest : List Input), ∃ t,
    step { s with pending := wr 3#8 v :: wr 1#8 x :: rest } = .next t ∧
    step t = .next { s with
      pending := rest
      lcr := v
      dlm := if v[7] then x else s.dlm
      ier := if v[7] then s.ier else x &&& 0x0F#8
      trace := s.trace ++ [.response (.status .ok), .response (.status .ok)] }

/-- R69, with D10: the pseudo-transaction `set_divisor lcr, d`, from any state, loads both latches with the bytes of
`d` and leaves LCR at `lcr` with DLAB clear. -/
def Obligations.SetDivisorLoadsBothLatches : Prop :=
  ∀ (s : State) (lcr : Byte) (d : BitVec 16) (rest : List Input),
    Host.Core.run Sys2Proof.core 4 { s with pending := pseudoSetDivisor lcr d ++ rest } =
      .next { s with
        pending := rest
        dll := d.extractLsb' 0 8
        dlm := d.extractLsb' 8 8
        lcr := lcr &&& 0x7F#8
        trace := s.trace ++ [.response (.status .ok), .response (.status .ok), .response (.status .ok),
          .response (.status .ok)] }

/-! ### Writes -/

/-- R79, R80: with DL 1, offsets 0 and 1 store the divisor latch bytes and nothing else; with DL 0 the same offsets are
WR_THR and WR_IER, and a read there returns the same byte whatever DLL holds. -/
def Obligations.DivisorLatchWritesStoreTheByte : Prop :=
  ∀ (v : Byte) (p : List Byte) (s : State),
    decode (mkDescriptor 0b01#2 true 0#8 v) p = .instr (.wrDll v) ∧
    exec (.wrDll v) s = .next { s with dll := v, trace := s.trace ++ [.response (.status .ok)] } ∧
    decode (mkDescriptor 0b01#2 true 1#8 v) p = .instr (.wrDlm v) ∧
    exec (.wrDlm v) s = .next { s with dlm := v, trace := s.trace ++ [.response (.status .ok)] } ∧
    decode (mkDescriptor 0b01#2 false 0#8 v) p = .instr (.wrThr v) ∧
    decode (mkDescriptor 0b01#2 false 1#8 v) p = .instr (.wrIer v) ∧
    decode (mkDescriptor 0b00#2 false 0#8 v) p = .instr .rdRbr ∧
    ∃ b t u, exec .rdRbr s = .next t ∧ exec .rdRbr { s with dll := v } = .next u ∧
      t.endedWith (.rdata b) ∧ u.endedWith (.rdata b)

/-- R84, R85, R88: LCR, MCR and SCR store all eight bits, under either DL, and nothing else changes; the next descriptor
has the new bit 7 of LCR as its DL, and the new bit 4 of MCR is the loopback mode. -/
def Obligations.RawWritesStoreTheByte : Prop :=
  ∀ (dl : Bool) (v : Byte) (p : List Byte) (s : State),
    decode (mkDescriptor 0b01#2 dl 3#8 v) p = .instr (.wrLcr v) ∧
    exec (.wrLcr v) s = .next { s with lcr := v, trace := s.trace ++ [.response (.status .ok)] } ∧
    decode (mkDescriptor 0b01#2 dl 4#8 v) p = .instr (.wrMcr v) ∧
    exec (.wrMcr v) s = .next { s with mcr := v, trace := s.trace ++ [.response (.status .ok)] } ∧
    decode (mkDescriptor 0b01#2 dl 7#8 v) p = .instr (.wrScr v) ∧
    exec (.wrScr v) s = .next { s with scr := v, trace := s.trace ++ [.response (.status .ok)] } ∧
    (∀ r t, exec (.wrLcr v) s = .next t → descriptorOf r t = mkDescriptor r.kind v[7] r.off r.data) ∧
    (∀ t, exec (.wrMcr v) s = .next t → t.loopMode = v[4])

/-- R82: IER stores the four valid bits of the byte; no cause, no Signal() and no other register is touched. -/
def Obligations.IerWriteKeepsValidBits : Prop :=
  ∀ (v : Byte) (p : List Byte) (s : State),
    decode (mkDescriptor 0b01#2 false 1#8 v) p = .instr (.wrIer v) ∧
    exec (.wrIer v) s = .next { s with ier := v &&& 0x0F#8, trace := s.trace ++ [.response (.status .ok)] }

/-- R83, R86, R87, R89: writes at offsets 2, 5, 6 and 8..255 change nothing and answer OK, under either DL. -/
def Obligations.IgnoredWritesChangeNothing : Prop :=
  ∀ (dl : Bool) (off : Offset) (v : Byte) (p : List Byte) (s : State),
    decode (mkDescriptor 0b01#2 dl 2#8 v) p = .instr (.wrIir v) ∧
    exec (.wrIir v) s = .next { s with trace := s.trace ++ [.response (.status .ok)] } ∧
    decode (mkDescriptor 0b01#2 dl 5#8 v) p = .instr (.wrLsr v) ∧
    exec (.wrLsr v) s = .next { s with trace := s.trace ++ [.response (.status .ok)] } ∧
    decode (mkDescriptor 0b01#2 dl 6#8 v) p = .instr (.wrMsr v) ∧
    exec (.wrMsr v) s = .next { s with trace := s.trace ++ [.response (.status .ok)] } ∧
    (8 ≤ off.toNat → decode (mkDescriptor 0b01#2 dl off v) p = .instr (.wrNop off v)) ∧
    exec (.wrNop off v) s = .next { s with trace := s.trace ++ [.response (.status .ok)] }

/-- R81 in loopback, below the cap: the byte is queued, data-ready is set, received-data is triggered; the Output Sink
is not called. The marking of the cause rests on R72's derived AND-NOT. -/
def Obligations.LoopbackWriteQueuesByte : Prop :=
  ∀ (v : Byte) (s : State), s.mcr[4] = true → s.rxq.length < 64 →
    exec (.wrThr v) s =
      .next (endOfTrigger 0x01#8 0x04#8 { s with rxq := s.rxq ++ [v], lsr := s.lsr ||| 0x01#8 })

/-- R81 in loopback, at or above the cap: the byte is dropped and the answer is not an error of its own; whether data is
announced is P_FULL_WRITE_SIGNALS (D14). -/
def Obligations.LoopbackWriteToFullQueueDropsByte : Prop :=
  ∀ (v : Byte) (s : State), s.mcr[4] = true → 64 ≤ s.rxq.length →
    (s.params.fullWriteSignals = false →
      exec (.wrThr v) s = .next { s with trace := s.trace ++ [.response (.status .ok)] }) ∧
    (s.params.fullWriteSignals = true →
      exec (.wrThr v) s = .next (endOfTrigger 0x01#8 0x04#8 { s with lsr := s.lsr ||| 0x01#8 }))

/-- R81 outside loopback, both sink calls answering ok: the byte is written and flushed, then THR-empty is triggered;
queue and data-ready are untouched. The marking of the cause rests on R72's derived AND-NOT. -/
def Obligations.TransmitTriggersThrEmpty : Prop :=
  ∀ (v : Byte) (s : State), s.mcr[4] = false →
    sinkAnswer s (.write v) = .ok → sinkAnswer (callSink s (.write v)) .flush = .ok →
    exec (.wrThr v) s =
      .next (endOfTrigger 0x02#8 0x02#8 { s with
        sinkAnswers := s.sinkAnswers.drop 2
        sinkDraws := s.sinkDraws + (2 - s.sinkAnswers.length)
        trace := s.trace ++ [.sinkWrite v .ok, .sinkFlush .ok] })

/-- R81 outside loopback, with D12: the first failing sink call ends the transaction with its error; no later call is
made and no register changes. -/
def Obligations.TransmitStopsAtFirstSinkFailure : Prop :=
  ∀ (v : Byte) (s : State) (e : IoError), s.mcr[4] = false →
    (sinkAnswer s (.write v) = .err e →
      exec (.wrThr v) s = .next { s with
        sinkAnswers := s.sinkAnswers.drop 1
        sinkDraws := s.sinkDraws + (1 - s.sinkAnswers.length)
        trace := s.trace ++ [.sinkWrite v (.err e), .response (.status (.errIo e))] }) ∧
    (sinkAnswer s (.write v) = .ok → sinkAnswer (callSink s (.write v)) .flush = .err e →
      exec (.wrThr v) s = .next { s with
        sinkAnswers := s.sinkAnswers.drop 2
        sinkDraws := s.sinkDraws + (2 - s.sinkAnswers.length)
        trace := s.trace ++ [.sinkWrite v .ok, .sinkFlush (.err e), .response (.status (.errIo e))] })

/-! ### Reads -/

/-- R91, R92, R94, R96, R97, R98, R100: these reads return the register and change nothing. -/
def Obligations.PlainReadsReturnTheRegister : Prop :=
  ∀ (dl : Bool) (x : Byte) (p : List Byte) (s : State),
    decode (mkDescriptor 0b00#2 true 0#8 x) p = .instr .rdDll ∧
    exec .rdDll s = .next { s with trace := s.trace ++ [.response (.rdata s.dll)] } ∧
    decode (mkDescriptor 0b00#2 true 1#8 x) p = .instr .rdDlm ∧
    exec .rdDlm s = .next { s with trace := s.trace ++ [.response (.rdata s.dlm)] } ∧
    decode (mkDescriptor 0b00#2 false 1#8 x) p = .instr .rdIer ∧
    exec .rdIer s = .next { s with trace := s.trace ++ [.response (.rdata s.ier)] } ∧
    decode (mkDescriptor 0b00#2 dl 3#8 x) p = .instr .rdLcr ∧
    exec .rdLcr s = .next { s with trace := s.trace ++ [.response (.rdata s.lcr)] } ∧
    decode (mkDescriptor 0b00#2 dl 4#8 x) p = .instr .rdMcr ∧
    exec .rdMcr s = .next { s with trace := s.trace ++ [.response (.rdata s.mcr)] } ∧
    decode (mkDescriptor 0b00#2 dl 5#8 x) p = .instr .rdLsr ∧
    exec .rdLsr s = .next { s with trace := s.trace ++ [.response (.rdata s.lsr)] } ∧
    decode (mkDescriptor 0b00#2 dl 7#8 x) p = .instr .rdScr ∧
    exec .rdScr s = .next { s with trace := s.trace ++ [.response (.rdata s.scr)] }

/-- R101: a read at an undecoded offset returns 0x00 and acknowledges nothing; offsets do not alias. -/
def Obligations.UndecodedReadsReturnZero : Prop :=
  ∀ (dl : Bool) (off : Offset) (x : Byte) (p : List Byte) (s : State),
    (8 ≤ off.toNat → decode (mkDescriptor 0b00#2 dl off x) p = .instr (.rdNop off)) ∧
    exec (.rdNop off) s = .next { s with trace := s.trace ++ [.response (.rdata 0x00#8)] }

/-- R78, R99: outside loopback the stored MSR is read; in loopback DCD, RI, DSR, CTS are OUT2, OUT1, DTR, RTS and the
low four bits are 0 (D17; positions by D2). Nothing changes. -/
def Obligations.ModemStatusReadMirrorsOutputs : Prop :=
  ∀ s : State, ∃ b : Byte,
    exec .rdMsr s = .next { s with trace := s.trace ++ [.response (.rdata b)] } ∧
    (s.mcr[4] = false → b = s.msr) ∧
    (s.mcr[4] = true →
      b[7] = s.mcr[3] ∧ b[6] = s.mcr[2] ∧ b[5] = s.mcr[0] ∧
      b[4] = s.mcr[1] ∧ b &&& 0x0F#8 = 0x00#8)

/-- R95: the IIR read returns the causes with bits 7..6 set, acknowledges both, and a second one reads 0xC1; under the
invariants, which reset meets and every step keeps, the value is C1, C2, C4 or C6. -/
def Obligations.IirReadAcknowledgesBothCauses : Prop :=
  ∀ (dl : Bool) (x : Byte) (p : List Byte) (s : State),
    decode (mkDescriptor 0b00#2 dl 2#8 x) p = .instr .rdIir ∧
    exec .rdIir s = .next { s with iir := 0x01#8, trace := s.trace ++ [.response (.rdata (s.iir ||| 0xC0#8))] } ∧
    (∀ t, exec .rdIir s = .next t →
      exec .rdIir t = .next { t with trace := t.trace ++ [.response (.rdata 0xC1#8)] }) ∧
    (SafeState s → s.iir ||| 0xC0#8 = 0xC1#8 ∨ s.iir ||| 0xC0#8 = 0xC2#8 ∨ s.iir ||| 0xC0#8 = 0xC4#8 ∨
      s.iir ||| 0xC0#8 = 0xC6#8)

/-- R93: the data read clears the RDA cause (NONE returns when no cause remains), pops the head (0x00 from an empty
queue) and clears data-ready when at most one entry remains after the pop. -/
def Obligations.DataReadPopsAndAcknowledges : Prop :=
  ∀ (x : Byte) (p : List Byte) (s : State),
    decode (mkDescriptor 0b00#2 false 0#8 x) p = .instr .rdRbr ∧
    exec .rdRbr s = .next { s with
      iir := if s.iir &&& 0xFB#8 = 0x00#8 then 0x01#8 else s.iir &&& 0xFB#8
      rxq := s.rxq.drop 1
      lsr := if s.rxq.length - 1 ≤ 1 then s.lsr &&& 0xFE#8 else s.lsr
      trace := s.trace ++ [.response (.rdata (match s.rxq with | [] => 0x00#8 | b :: _ => b))] }

/-- R90: every read returns one byte, never fails and calls nothing; only the data read and the IIR read change the
block. -/
def Obligations.ReadsNeverFailAndCallNothing : Prop :=
  ∀ (i : Instr) (s : State), i.isRead = true →
    ∃ b t, exec i s = .next t ∧
      t = { s with iir := t.iir, rxq := t.rxq, lsr := t.lsr, trace := s.trace ++ [.response (.rdata b)] } ∧
      (i ≠ .rdRbr → i ≠ .rdIir → t.snapshot = s.snapshot)

/-- R51: a read other than the two is idempotent, and each of the two can return different bytes twice in a row. -/
def Obligations.OnlyTwoReadsAreNotIdempotent : Prop :=
  (∀ (i : Instr) (s : State), i.isRead = true → i ≠ .rdRbr → i ≠ .rdIir →
    ∃ b, exec i s = .next (s.responded (.rdata b)) ∧
      exec i (s.responded (.rdata b)) = .next ((s.responded (.rdata b)).responded (.rdata b))) ∧
  (∃ s t u b b', exec .rdRbr s = .next t ∧ exec .rdRbr t = .next u ∧
    u.trace = s.trace ++ [.response (.rdata b), .response (.rdata b')] ∧ b ≠ b') ∧
  (∃ s t u b b', exec .rdIir s = .next t ∧ exec .rdIir t = .next u ∧
    u.trace = s.trace ++ [.response (.rdata b), .response (.rdata b')] ∧ b ≠ b')

/-- R27: the divisor the latches denote is DLM * 256 + DLL; no transaction reads it. -/
def Obligations.DivisorIsHighByteTimes256PlusLow : Prop :=
  ∀ s : State, s.divisor.toNat = s.dlm.toNat * 256 + s.dll.toNat

/-! ### Injection and launch -/

/-- R102 outside loopback, with D15 and D16: the whole payload is appended with no cap, data-ready is set, and
received-data is triggered once; an empty payload does so only under P_EMPTY_INJECT. -/
def Obligations.InjectionAppendsWholePayload : Prop :=
  ∀ (p : List Byte) (s : State), s.mcr[4] = false → (p ≠ [] ∨ s.params.emptyInject = true) →
    exec (.inj p) s =
      .next (endOfTrigger 0x01#8 0x04#8 { s with rxq := s.rxq ++ p, lsr := s.lsr ||| 0x01#8 })

/-- R102, with D15: in loopback, and for an empty payload when P_EMPTY_INJECT is false, an injection answers OK and
changes nothing. -/
def Obligations.InjectionWithoutEffect : Prop :=
  ∀ (p : List Byte) (s : State),
    (s.mcr[4] = true ∨ (p = [] ∧ s.params.emptyInject = false)) →
    exec (.inj p) s = .next { s with trace := s.trace ++ [.response (.status .ok)] }

/-- R104, I6: the launch is reset, or the restored record with everything else as at reset; a record that breaks the
invariants is refused by name. That R42 is among them is the model's reading (log 12). -/
def Obligations.LaunchIsResetOrRestoredRecord : Prop :=
  launch none = .next State.reset ∧
  ∀ r : Snapshot,
    (RecordInv Config.params r → launch (some r) = .next { State.reset with
      dll := r.dll, dlm := r.dlm, ier := r.ier, iir := r.iir, lcr := r.lcr, lsr := r.lsr, mcr := r.mcr, msr := r.msr,
      scr := r.scr, rxq := r.rxq }) ∧
    (¬RecordInv Config.params r → launch (some r) = .refused .brokenSnapshot)

/-! ### Whole-machine rules -/

/-- The invariants hold at reset (R38 to R42). -/
def Obligations.ResetMeetsInvariants : Prop := SafeState State.reset

/-- The invariants R38 to R42 are kept by every step from every state that meets them, whatever the capabilities
answer and whatever the open parameters are. -/
def Obligations.StepKeepsInvariants : Prop :=
  ∀ s t : State, SafeState s → step s = .next t → SafeState t

/-- R62, R105: a transaction's events are its capability calls and then one response, one byte for a read and a status
for the others; the status is ERR_SIGNAL(e) exactly when Signal() answered err(e), ERR_IO(e) exactly when a sink call
did, and only the transactions R105 names answer so. The status codes are the spec's own choice (D11). -/
def Obligations.ResponsesFollowTheCalls : Prop :=
  (∀ (i : Instr) (s : State), ∃ t calls r,
    exec i s = .next t ∧ t.trace = s.trace ++ calls ++ [.response r] ∧ (∀ x ∈ calls, x.isResponse = false) ∧
    (i.isRead = true → ∃ b, r = .rdata b) ∧
    (i.isRead = false → ∃ q, r = .status q ∧
      (∀ e, q = .errSignal e ↔ .signal (.err e) ∈ calls) ∧
      (∀ e, q = .errIo e ↔ (∃ b, .sinkWrite b (.err e) ∈ calls) ∨ .sinkFlush (.err e) ∈ calls) ∧
      (∀ e, q = .errSignal e → (∃ v, i = .wrThr v) ∨ (∃ p, i = .inj p)) ∧
      (∀ e, q = .errIo e → (∃ v, i = .wrThr v) ∧ s.mcr[4] = false))) ∧
  (∀ r : Resp SigError IoError, (r = .ok → statusCode r = 0b00#2) ∧ (∀ e, r = .errSignal e → statusCode r = 0b01#2) ∧
    (∀ e, r = .errIo e → statusCode r = 0b10#2) ∧ statusCode r ≠ 0b11#2)

/-- R106: no read fails, no write but the data write fails, an injection in loopback answers OK, and a reserved
descriptor decodes to no transaction. -/
def Obligations.OtherTransactionsCannotFail : Prop :=
  ∀ (i : Instr) (s : State),
    (i.isRead = true → ∃ b t, exec i s = .next t ∧ t.trace = s.trace ++ [.response (.rdata b)]) ∧
    (i.isRead = false → (∀ v, i ≠ .wrThr v) → (∀ p, i ≠ .inj p) →
      ∃ t, exec i s = .next t ∧ t.trace = s.trace ++ [.response (.status .ok)]) ∧
    (∀ p, i = .inj p → s.mcr[4] = true →
      ∃ t, exec i s = .next t ∧ t.trace = s.trace ++ [.response (.status .ok)]) ∧
    (∀ d p, kindOf d = 0b11#2 → decode d p = .reservedKind)

/-- R107: an error ends its transaction at once and undoes nothing. After ERR_SIGNAL the failed Signal() is the last call,
the cause is marked, and the byte or payload is queued with data-ready set, or was written and flushed; ERR_IO changes no
register, and from the flush it follows a write that was accepted. -/
def Obligations.ErrorsUndoNothing : Prop :=
  (∀ (v : Byte) (s t : State) (e : SigError), exec (.wrThr v) s = .next t → t.endedWith (.status (.errSignal e)) →
    (s.mcr[4] = true → t.iir[2] = true ∧ t.lsr[0] = true ∧
      t.rxq = (if s.rxq.length < 64 then s.rxq ++ [v] else s.rxq) ∧
      t.trace = s.trace ++ [.signal (.err e), .response (.status (.errSignal e))]) ∧
    (s.mcr[4] = false → t.iir[1] = true ∧
      t.trace = s.trace ++ [.sinkWrite v .ok, .sinkFlush .ok, .signal (.err e), .response (.status (.errSignal e))])) ∧
  (∀ (p : List Byte) (s t : State) (e : SigError), exec (.inj p) s = .next t → t.endedWith (.status (.errSignal e)) →
    t.iir[2] = true ∧ t.lsr[0] = true ∧ t.rxq = s.rxq ++ p ∧
    t.trace = s.trace ++ [.signal (.err e), .response (.status (.errSignal e))]) ∧
  (∀ (v : Byte) (s t : State) (e : IoError), exec (.wrThr v) s = .next t → t.endedWith (.status (.errIo e)) →
    t.snapshot = s.snapshot ∧
    (t.trace = s.trace ++ [.sinkWrite v (.err e), .response (.status (.errIo e))] ∨
      t.trace = s.trace ++ [.sinkWrite v .ok, .sinkFlush (.err e), .response (.status (.errIo e))]))

/-- R111: a triggering event of a cause makes one Signal() exactly when the cause is enabled and not outstanding,
whatever the other cause is; otherwise none. -/
def Obligations.SignalsAreEdgeTriggeredPerCause : Prop :=
  (∀ (v : Byte) (s t : State), s.mcr[4] = true → (s.rxq.length < 64 ∨ s.params.fullWriteSignals = true) →
    exec (.wrThr v) s = .next t →
    signalCount t.trace =
      signalCount s.trace + (if s.ier[0] = true ∧ s.iir[2] = false then 1 else 0)) ∧
  (∀ (v : Byte) (s t : State), s.mcr[4] = false →
    sinkAnswer s (.write v) = .ok → sinkAnswer (callSink s (.write v)) .flush = .ok →
    exec (.wrThr v) s = .next t →
    signalCount t.trace =
      signalCount s.trace + (if s.ier[1] = true ∧ s.iir[1] = false then 1 else 0)) ∧
  (∀ (p : List Byte) (s t : State), s.mcr[4] = false → (p ≠ [] ∨ s.params.emptyInject = true) →
    exec (.inj p) s = .next t →
    signalCount t.trace =
      signalCount s.trace + (if s.ier[0] = true ∧ s.iir[2] = false then 1 else 0))

/-- R114: a transaction makes at most one Signal(), none unless it is a data write or an injection; in loopback and in
an injection only RDA can become outstanding, and outside loopback a data write can raise only THRE. -/
def Obligations.OneTransactionTriggersAtMostOneCause : Prop :=
  ∀ (i : Instr) (s t : State), exec i s = .next t →
    signalCount t.trace ≤ signalCount s.trace + 1 ∧
    ((∀ v, i ≠ .wrThr v) → (∀ p, i ≠ .inj p) → signalCount t.trace = signalCount s.trace) ∧
    (∀ v, i = .wrThr v → s.mcr[4] = true → t.iir[1] = s.iir[1]) ∧
    (∀ v, i = .wrThr v → s.mcr[4] = false → t.iir[2] = s.iir[2]) ∧
    (∀ p, i = .inj p → t.iir[1] = s.iir[1])

/-- R116, R112: only the IIR read clears THRE; only the IIR read and the data read clear RDA; no write acknowledges. An
acknowledgment calls nothing: its one event is the read's response. -/
def Obligations.OnlyTwoReadsAcknowledge : Prop :=
  ∀ (i : Instr) (s t : State), exec i s = .next t →
    (i ≠ .rdIir → s.iir[1] = true → t.iir[1] = true) ∧
    (i ≠ .rdIir → i ≠ .rdRbr → s.iir[2] = true → t.iir[2] = true) ∧
    (i = .rdIir → t.iir[1] = false ∧ t.iir[2] = false ∧ ∃ b, t.trace = s.trace ++ [.response (.rdata b)]) ∧
    (i = .rdRbr → t.iir[2] = false ∧ t.iir[1] = s.iir[1] ∧ ∃ b, t.trace = s.trace ++ [.response (.rdata b)])

/-- R31, R33, R21: no transaction alters a bit of LSR but data-ready, the stored MSR, or the open parameters, and none
takes an input away. -/
def Obligations.FixedBitsNeverChange : Prop :=
  ∀ (i : Instr) (s t : State), exec i s = .next t →
    t.lsr &&& 0xFE#8 = s.lsr &&& 0xFE#8 ∧ t.msr = s.msr ∧ t.params = s.params ∧ t.pending = s.pending

/-- R36 and section 4 of 10_state.md: each register and the queue change only by the transactions listed for them. -/
def Obligations.RegistersChangeOnlyByTheirTransactions : Prop :=
  ∀ (i : Instr) (s t : State), exec i s = .next t →
    ((∀ v, i ≠ .wrDll v) → t.dll = s.dll) ∧
    ((∀ v, i ≠ .wrDlm v) → t.dlm = s.dlm) ∧
    ((∀ v, i ≠ .wrIer v) → t.ier = s.ier) ∧
    ((∀ v, i ≠ .wrLcr v) → t.lcr = s.lcr) ∧
    ((∀ v, i ≠ .wrMcr v) → t.mcr = s.mcr) ∧
    ((∀ v, i ≠ .wrScr v) → t.scr = s.scr) ∧
    ((∀ v, i ≠ .wrThr v) → (∀ p, i ≠ .inj p) → i ≠ .rdRbr → t.rxq = s.rxq ∧ t.lsr = s.lsr) ∧
    ((∀ v, i ≠ .wrThr v) → (∀ p, i ≠ .inj p) → i ≠ .rdRbr → i ≠ .rdIir → t.iir = s.iir)

/-- R41 (a), R81: a loopback data write never makes the queue longer than 64, and never changes one that is already
there. -/
def Obligations.LoopbackWriteRespectsCap : Prop :=
  ∀ (v : Byte) (s t : State), s.mcr[4] = true → exec (.wrThr v) s = .next t →
    (s.rxq.length ≤ 64 → t.rxq.length ≤ 64) ∧ (64 ≤ s.rxq.length → t.rxq = s.rxq)

/-- R81, R102, R90: the Output Sink is offered the byte of a data write outside loopback, once, and nothing else. -/
def Obligations.SinkIsOfferedDataWritesOnly : Prop :=
  ∀ (i : Instr) (s t : State), exec i s = .next t →
    (∀ v, i = .wrThr v → s.mcr[4] = false → sinkBytes t.trace = sinkBytes s.trace ++ [v]) ∧
    ((∀ v, i = .wrThr v → s.mcr[4] = true) → sinkBytes t.trace = sinkBytes s.trace)

/-- 95_test_vectors.md 1.1, 1.2 and 1.5, R96, R97, R100: a read straight after a write to LCR, MCR, SCR, IER or a divisor
latch returns the byte written (IER: its four valid bits), and so does a read after one more transaction that does not
write that register again. -/
def Obligations.WrittenRegistersReadBack : Prop :=
  ∀ (v : Byte) (i : Instr) (s t u : State), exec i t = .next u →
    (exec (.wrLcr v) s = .next t →
      exec .rdLcr t = .next (t.responded (.rdata v)) ∧
      ((∀ w, i ≠ .wrLcr w) → exec .rdLcr u = .next (u.responded (.rdata v)))) ∧
    (exec (.wrMcr v) s = .next t →
      exec .rdMcr t = .next (t.responded (.rdata v)) ∧
      ((∀ w, i ≠ .wrMcr w) → exec .rdMcr u = .next (u.responded (.rdata v)))) ∧
    (exec (.wrScr v) s = .next t →
      exec .rdScr t = .next (t.responded (.rdata v)) ∧
      ((∀ w, i ≠ .wrScr w) → exec .rdScr u = .next (u.responded (.rdata v)))) ∧
    (exec (.wrDll v) s = .next t →
      exec .rdDll t = .next (t.responded (.rdata v)) ∧
      ((∀ w, i ≠ .wrDll w) → exec .rdDll u = .next (u.responded (.rdata v)))) ∧
    (exec (.wrDlm v) s = .next t →
      exec .rdDlm t = .next (t.responded (.rdata v)) ∧
      ((∀ w, i ≠ .wrDlm w) → exec .rdDlm u = .next (u.responded (.rdata v)))) ∧
    (exec (.wrIer v) s = .next t →
      exec .rdIer t = .next (t.responded (.rdata (v &&& 0x0F#8))) ∧
      ((∀ w, i ≠ .wrIer w) → exec .rdIer u = .next (u.responded (.rdata (v &&& 0x0F#8)))))

/-- R26 to R28, R30, R32, R34: DLL, DLM, SCR, bits 6..0 of LCR, bits 7..5 of MCR and bits 3..2 of IER are stored with no
effect. Zeroed, they change no descriptor and nothing a transaction does but to themselves, the reads of those registers
apart. The bit positions are those of R25 (D2; log 1). -/
def Obligations.StoredOnlyBitsHaveNoEffect : Prop :=
  ∀ (i : Instr) (s : State),
    (∀ r, descriptorOf r s.withoutIdleBits = descriptorOf r s) ∧
    (i ≠ .rdDll → i ≠ .rdDlm → i ≠ .rdIer → i ≠ .rdLcr → i ≠ .rdMcr → i ≠ .rdScr →
      ∃ t u, exec i s = .next t ∧ exec i s.withoutIdleBits = .next u ∧ u.withoutIdleBits = t.withoutIdleBits)

/-- The trace is the model's own (log 7) and steers nothing: a step from `s` is the step from `s` with nothing seen,
what was seen before put in front (R20, R21: nothing else persists). -/
def Obligations.TraceSteersNothing : Prop :=
  ∀ s : State, step s = afterSeeing s.trace (step { s with trace := [] })

/-! ### Runs of any length -/

/-- R35, R93: as many data reads as the queue holds bytes return them oldest first and leave it empty, whatever the
other registers hold, with DLAB clear. -/
def Obligations.DataReadsReturnQueueInOrder : Prop :=
  ∀ (s : State) (rest : List Input), s.lcr[7] = false →
    ∃ t : State, Host.Core.run Sys2Proof.core s.rxq.length
        { s with pending := List.replicate s.rxq.length (rd 0#8) ++ rest } = .next t ∧
      t.rxq = [] ∧ t.pending = rest ∧
      t.trace = s.trace ++ s.rxq.map (fun b => .response (.rdata b))

/-- R81, R93 and the source's property in 95_test_vectors.md 1.3: in loopback with DLAB clear and an empty queue, at
most 64 bytes written and then read come back in order, whatever Signal() answers. -/
def Obligations.LoopbackReturnsWrittenBytesInOrder : Prop :=
  ∀ (s : State) (b : List Byte) (rest : List Input),
    s.mcr[4] = true → s.lcr[7] = false → s.rxq = [] → b.length ≤ 64 →
    ∃ t : State, Host.Core.run Sys2Proof.core (b.length + b.length)
        { s with pending := b.map (fun v => wr 0#8 v) ++ (List.replicate b.length (rd 0#8) ++ rest) } = .next t ∧
      t.rxq = [] ∧ t.pending = rest ∧
      readBytes t.trace = readBytes s.trace ++ b ∧ sinkBytes t.trace = sinkBytes s.trace

/-- R54, R131: with THRE enabled and not outstanding, any positive number of data writes outside loopback, every sink
call answering ok (the answers listed beforehand) and IIR never read, makes one Signal(), and the bytes reach the Output
Sink in order. -/
def Obligations.UnacknowledgedThreSignalsOnce : Prop :=
  ∀ (s : State) (b : List Byte) (rest : List Input),
    s.mcr[4] = false → s.lcr[7] = false → s.ier[1] = true → s.iir[1] = false →
    b ≠ [] → s.sinkAnswers = List.replicate (b.length + b.length) .ok →
    ∃ t : State, Host.Core.run Sys2Proof.core b.length { s with pending := b.map (fun v => wr 0#8 v) ++ rest } = .next t ∧
      t.pending = rest ∧ t.iir[1] = true ∧
      signalCount t.trace = signalCount s.trace + 1 ∧ sinkBytes t.trace = sinkBytes s.trace ++ b

/-! ### The error payload types -/

/-- R10, D11, R105: the error payload types are arguments and nothing looks inside a payload. `exec` is `execAt` at this
machine's types; at any types, renaming the payloads of the answers renames those of the outcome and changes nothing else,
while listed answers serve the transaction's calls (at most one Signal() and two sink calls). -/
def Obligations.ErrorPayloadsSteerNothing : Prop :=
  (∀ (i : Instr) (s : State), exec i s = execAt i s) ∧
  ∀ (E_SIG E_IO E_SIG' E_IO' : Type) (f : E_SIG → E_SIG') (g : E_IO → E_IO') (i : Instr) (s : Uart.State E_SIG E_IO),
    1 ≤ s.signalAnswers.length → 2 ≤ s.sinkAnswers.length →
    execAt i (s.relabel f g) = relabelResult f g (execAt i s)
end

