-- ==== Sys2Proof/Laws/Decode.lean ====
section
/-! SUPPORT. The descriptor's fields: what each reads of a descriptor put together, and where decode looks. -/

namespace Sys2Proof

@[simp] theorem kindOf_mkDescriptor (k : Kind) (dl : Bool) (o : Offset) (v : Byte) :
    kindOf (mkDescriptor k dl o v) = k := by
  apply BitVec.eq_of_getLsbD_eq
  intro i hi
  simp only [kindOf, mkDescriptor, BitVec.getLsbD_extractLsb', BitVec.getLsbD_append, BitVec.getLsbD_ofBool]
  simp only [hi, decide_true, Bool.true_and]
  rw [if_neg (by omega), if_neg (by omega), if_neg (by omega)]
  congr 1
  omega

@[simp] theorem dlOf_mkDescriptor (k : Kind) (dl : Bool) (o : Offset) (v : Byte) :
    dlOf (mkDescriptor k dl o v) = dl := by
  simp only [dlOf, mkDescriptor, BitVec.getLsbD_append]
  simp

@[simp] theorem offOf_mkDescriptor (k : Kind) (dl : Bool) (o : Offset) (v : Byte) :
    offOf (mkDescriptor k dl o v) = o := by
  apply BitVec.eq_of_getLsbD_eq
  intro i hi
  simp only [offOf, mkDescriptor, BitVec.getLsbD_extractLsb', BitVec.getLsbD_append]
  simp only [hi, decide_true, Bool.true_and]
  rw [if_neg (by omega), if_pos (by omega)]
  congr 1
  omega

@[simp] theorem dataOf_mkDescriptor (k : Kind) (dl : Bool) (o : Offset) (v : Byte) :
    dataOf (mkDescriptor k dl o v) = v := by
  apply BitVec.eq_of_getLsbD_eq
  intro i hi
  simp only [dataOf, mkDescriptor, BitVec.getLsbD_extractLsb', BitVec.getLsbD_append]
  simp [hi]

/-- A descriptor is its four fields. -/
theorem mkDescriptor_fields (d : Descriptor) : mkDescriptor (kindOf d) (dlOf d) (offOf d) (dataOf d) = d := by
  apply BitVec.eq_of_getLsbD_eq
  intro i hi
  simp only [kindOf, dlOf, offOf, dataOf, mkDescriptor, BitVec.getLsbD_append, BitVec.getLsbD_extractLsb',
    BitVec.getLsbD_ofBool]
  split
  · rename_i h; simp [h]
  · split
    · rename_i h; simp [h]; congr 1; omega
    · split
      · rename_i h; have : i = 16 := by omega
        subst this; simp
      · have h2 : i - 8 - 8 - 1 < 2 := by omega
        simp [h2]; congr 1; omega

/-- A KIND is one of four. -/
theorem kind_cases (k : Kind) : k = kindRd ∨ k = kindWr ∨ k = kindInj ∨ k = kindReserved := by
  revert k; decide

/-- Decode of a descriptor put together from its fields (R64). -/
theorem decode_mkDescriptor (k : Kind) (dl : Bool) (o : Offset) (v : Byte) (p : List Byte) :
    decode (mkDescriptor k dl o v) p =
      if k = kindReserved then .reservedKind
      else if k = kindInj then .instr (.inj p)
      else if k = kindWr then .instr (decodeWrite dl o v)
      else .instr (decodeRead dl o) := by
  simp [decode]

@[simp] theorem decode_write (dl : Bool) (o : Offset) (v : Byte) (p : List Byte) :
    decode (mkDescriptor kindWr dl o v) p = .instr (decodeWrite dl o v) := by
  simp [decode, kindWr, kindReserved, kindInj]

@[simp] theorem decode_read (dl : Bool) (o : Offset) (v : Byte) (p : List Byte) :
    decode (mkDescriptor kindRd dl o v) p = .instr (decodeRead dl o) := by
  simp [decode, kindRd, kindWr, kindReserved, kindInj]

@[simp] theorem decode_inject (dl : Bool) (o : Offset) (v : Byte) (p : List Byte) :
    decode (mkDescriptor kindInj dl o v) p = .instr (.inj p) := by
  simp [decode, kindReserved, kindInj]

/-- WR at an undecoded offset is WR_NOP: no aliasing (R47, R89). -/
theorem decodeWrite_undecoded {o : Offset} (h : 8 ≤ o.toNat) (dl : Bool) (v : Byte) :
    decodeWrite dl o v = .wrNop o v := by
  have ne : ∀ k : Nat, k < 8 → o ≠ BitVec.ofNat 8 k := by
    rintro k hk rfl
    simp only [BitVec.toNat_ofNat] at h
    omega
  simp only [decodeWrite, if_neg (ne 0 (by omega)), if_neg (ne 1 (by omega)), if_neg (ne 2 (by omega)),
    if_neg (ne 3 (by omega)), if_neg (ne 4 (by omega)), if_neg (ne 5 (by omega)), if_neg (ne 6 (by omega)),
    if_neg (ne 7 (by omega))]

/-- RD at an undecoded offset is RD_NOP (R47, R101). -/
theorem decodeRead_undecoded {o : Offset} (h : 8 ≤ o.toNat) (dl : Bool) : decodeRead dl o = .rdNop o := by
  have ne : ∀ k : Nat, k < 8 → o ≠ BitVec.ofNat 8 k := by
    rintro k hk rfl
    simp only [BitVec.toNat_ofNat] at h
    omega
  simp only [decodeRead, if_neg (ne 0 (by omega)), if_neg (ne 1 (by omega)), if_neg (ne 2 (by omega)),
    if_neg (ne 3 (by omega)), if_neg (ne 4 (by omega)), if_neg (ne 5 (by omega)), if_neg (ne 6 (by omega)),
    if_neg (ne 7 (by omega))]

/-- An offset is one of the eight decoded ones or at least 8 (R44). -/
theorem offset_cases (o : Offset) :
    o = 0#8 ∨ o = 1#8 ∨ o = 2#8 ∨ o = 3#8 ∨ o = 4#8 ∨ o = 5#8 ∨ o = 6#8 ∨ o = 7#8 ∨ 8 ≤ o.toNat := by
  revert o; decide

end Sys2Proof
end

