-- ==== Sys2Proof/Laws/State.lean ====
section
/-! SUPPORT. One lemma per field per update of State: what an update sets and what it leaves. -/

namespace Sys2Proof.Machine

variable {E_SIG E_IO : Type} (s : Uart.State E_SIG E_IO)

/-! ### setDll -/
@[simp] theorem Uart.State.setDll_dll (v : Byte) : (s.setDll v).dll = v := rfl
@[simp] theorem Uart.State.setDll_dlm (v : Byte) : (s.setDll v).dlm = s.dlm := rfl
@[simp] theorem Uart.State.setDll_ier (v : Byte) : (s.setDll v).ier = s.ier := rfl
@[simp] theorem Uart.State.setDll_iir (v : Byte) : (s.setDll v).iir = s.iir := rfl
@[simp] theorem Uart.State.setDll_lcr (v : Byte) : (s.setDll v).lcr = s.lcr := rfl
@[simp] theorem Uart.State.setDll_lsr (v : Byte) : (s.setDll v).lsr = s.lsr := rfl
@[simp] theorem Uart.State.setDll_mcr (v : Byte) : (s.setDll v).mcr = s.mcr := rfl
@[simp] theorem Uart.State.setDll_msr (v : Byte) : (s.setDll v).msr = s.msr := rfl
@[simp] theorem Uart.State.setDll_scr (v : Byte) : (s.setDll v).scr = s.scr := rfl
@[simp] theorem Uart.State.setDll_rxq (v : Byte) : (s.setDll v).rxq = s.rxq := rfl
@[simp] theorem Uart.State.setDll_params (v : Byte) : (s.setDll v).params = s.params := rfl
@[simp] theorem Uart.State.setDll_pending (v : Byte) : (s.setDll v).pending = s.pending := rfl
@[simp] theorem Uart.State.setDll_signalAnswers (v : Byte) : (s.setDll v).signalAnswers = s.signalAnswers := rfl
@[simp] theorem Uart.State.setDll_sinkAnswers (v : Byte) : (s.setDll v).sinkAnswers = s.sinkAnswers := rfl
@[simp] theorem Uart.State.setDll_signalDraws (v : Byte) : (s.setDll v).signalDraws = s.signalDraws := rfl
@[simp] theorem Uart.State.setDll_sinkDraws (v : Byte) : (s.setDll v).sinkDraws = s.sinkDraws := rfl
@[simp] theorem Uart.State.setDll_trace (v : Byte) : (s.setDll v).trace = s.trace := rfl

/-! ### setDlm -/
@[simp] theorem Uart.State.setDlm_dll (v : Byte) : (s.setDlm v).dll = s.dll := rfl
@[simp] theorem Uart.State.setDlm_dlm (v : Byte) : (s.setDlm v).dlm = v := rfl
@[simp] theorem Uart.State.setDlm_ier (v : Byte) : (s.setDlm v).ier = s.ier := rfl
@[simp] theorem Uart.State.setDlm_iir (v : Byte) : (s.setDlm v).iir = s.iir := rfl
@[simp] theorem Uart.State.setDlm_lcr (v : Byte) : (s.setDlm v).lcr = s.lcr := rfl
@[simp] theorem Uart.State.setDlm_lsr (v : Byte) : (s.setDlm v).lsr = s.lsr := rfl
@[simp] theorem Uart.State.setDlm_mcr (v : Byte) : (s.setDlm v).mcr = s.mcr := rfl
@[simp] theorem Uart.State.setDlm_msr (v : Byte) : (s.setDlm v).msr = s.msr := rfl
@[simp] theorem Uart.State.setDlm_scr (v : Byte) : (s.setDlm v).scr = s.scr := rfl
@[simp] theorem Uart.State.setDlm_rxq (v : Byte) : (s.setDlm v).rxq = s.rxq := rfl
@[simp] theorem Uart.State.setDlm_params (v : Byte) : (s.setDlm v).params = s.params := rfl
@[simp] theorem Uart.State.setDlm_pending (v : Byte) : (s.setDlm v).pending = s.pending := rfl
@[simp] theorem Uart.State.setDlm_signalAnswers (v : Byte) : (s.setDlm v).signalAnswers = s.signalAnswers := rfl
@[simp] theorem Uart.State.setDlm_sinkAnswers (v : Byte) : (s.setDlm v).sinkAnswers = s.sinkAnswers := rfl
@[simp] theorem Uart.State.setDlm_signalDraws (v : Byte) : (s.setDlm v).signalDraws = s.signalDraws := rfl
@[simp] theorem Uart.State.setDlm_sinkDraws (v : Byte) : (s.setDlm v).sinkDraws = s.sinkDraws := rfl
@[simp] theorem Uart.State.setDlm_trace (v : Byte) : (s.setDlm v).trace = s.trace := rfl

/-! ### setIer -/
@[simp] theorem Uart.State.setIer_dll (v : Byte) : (s.setIer v).dll = s.dll := rfl
@[simp] theorem Uart.State.setIer_dlm (v : Byte) : (s.setIer v).dlm = s.dlm := rfl
@[simp] theorem Uart.State.setIer_ier (v : Byte) : (s.setIer v).ier = v := rfl
@[simp] theorem Uart.State.setIer_iir (v : Byte) : (s.setIer v).iir = s.iir := rfl
@[simp] theorem Uart.State.setIer_lcr (v : Byte) : (s.setIer v).lcr = s.lcr := rfl
@[simp] theorem Uart.State.setIer_lsr (v : Byte) : (s.setIer v).lsr = s.lsr := rfl
@[simp] theorem Uart.State.setIer_mcr (v : Byte) : (s.setIer v).mcr = s.mcr := rfl
@[simp] theorem Uart.State.setIer_msr (v : Byte) : (s.setIer v).msr = s.msr := rfl
@[simp] theorem Uart.State.setIer_scr (v : Byte) : (s.setIer v).scr = s.scr := rfl
@[simp] theorem Uart.State.setIer_rxq (v : Byte) : (s.setIer v).rxq = s.rxq := rfl
@[simp] theorem Uart.State.setIer_params (v : Byte) : (s.setIer v).params = s.params := rfl
@[simp] theorem Uart.State.setIer_pending (v : Byte) : (s.setIer v).pending = s.pending := rfl
@[simp] theorem Uart.State.setIer_signalAnswers (v : Byte) : (s.setIer v).signalAnswers = s.signalAnswers := rfl
@[simp] theorem Uart.State.setIer_sinkAnswers (v : Byte) : (s.setIer v).sinkAnswers = s.sinkAnswers := rfl
@[simp] theorem Uart.State.setIer_signalDraws (v : Byte) : (s.setIer v).signalDraws = s.signalDraws := rfl
@[simp] theorem Uart.State.setIer_sinkDraws (v : Byte) : (s.setIer v).sinkDraws = s.sinkDraws := rfl
@[simp] theorem Uart.State.setIer_trace (v : Byte) : (s.setIer v).trace = s.trace := rfl

/-! ### setIir -/
@[simp] theorem Uart.State.setIir_dll (v : Byte) : (s.setIir v).dll = s.dll := rfl
@[simp] theorem Uart.State.setIir_dlm (v : Byte) : (s.setIir v).dlm = s.dlm := rfl
@[simp] theorem Uart.State.setIir_ier (v : Byte) : (s.setIir v).ier = s.ier := rfl
@[simp] theorem Uart.State.setIir_iir (v : Byte) : (s.setIir v).iir = v := rfl
@[simp] theorem Uart.State.setIir_lcr (v : Byte) : (s.setIir v).lcr = s.lcr := rfl
@[simp] theorem Uart.State.setIir_lsr (v : Byte) : (s.setIir v).lsr = s.lsr := rfl
@[simp] theorem Uart.State.setIir_mcr (v : Byte) : (s.setIir v).mcr = s.mcr := rfl
@[simp] theorem Uart.State.setIir_msr (v : Byte) : (s.setIir v).msr = s.msr := rfl
@[simp] theorem Uart.State.setIir_scr (v : Byte) : (s.setIir v).scr = s.scr := rfl
@[simp] theorem Uart.State.setIir_rxq (v : Byte) : (s.setIir v).rxq = s.rxq := rfl
@[simp] theorem Uart.State.setIir_params (v : Byte) : (s.setIir v).params = s.params := rfl
@[simp] theorem Uart.State.setIir_pending (v : Byte) : (s.setIir v).pending = s.pending := rfl
@[simp] theorem Uart.State.setIir_signalAnswers (v : Byte) : (s.setIir v).signalAnswers = s.signalAnswers := rfl
@[simp] theorem Uart.State.setIir_sinkAnswers (v : Byte) : (s.setIir v).sinkAnswers = s.sinkAnswers := rfl
@[simp] theorem Uart.State.setIir_signalDraws (v : Byte) : (s.setIir v).signalDraws = s.signalDraws := rfl
@[simp] theorem Uart.State.setIir_sinkDraws (v : Byte) : (s.setIir v).sinkDraws = s.sinkDraws := rfl
@[simp] theorem Uart.State.setIir_trace (v : Byte) : (s.setIir v).trace = s.trace := rfl

/-! ### setLcr -/
@[simp] theorem Uart.State.setLcr_dll (v : Byte) : (s.setLcr v).dll = s.dll := rfl
@[simp] theorem Uart.State.setLcr_dlm (v : Byte) : (s.setLcr v).dlm = s.dlm := rfl
@[simp] theorem Uart.State.setLcr_ier (v : Byte) : (s.setLcr v).ier = s.ier := rfl
@[simp] theorem Uart.State.setLcr_iir (v : Byte) : (s.setLcr v).iir = s.iir := rfl
@[simp] theorem Uart.State.setLcr_lcr (v : Byte) : (s.setLcr v).lcr = v := rfl
@[simp] theorem Uart.State.setLcr_lsr (v : Byte) : (s.setLcr v).lsr = s.lsr := rfl
@[simp] theorem Uart.State.setLcr_mcr (v : Byte) : (s.setLcr v).mcr = s.mcr := rfl
@[simp] theorem Uart.State.setLcr_msr (v : Byte) : (s.setLcr v).msr = s.msr := rfl
@[simp] theorem Uart.State.setLcr_scr (v : Byte) : (s.setLcr v).scr = s.scr := rfl
@[simp] theorem Uart.State.setLcr_rxq (v : Byte) : (s.setLcr v).rxq = s.rxq := rfl
@[simp] theorem Uart.State.setLcr_params (v : Byte) : (s.setLcr v).params = s.params := rfl
@[simp] theorem Uart.State.setLcr_pending (v : Byte) : (s.setLcr v).pending = s.pending := rfl
@[simp] theorem Uart.State.setLcr_signalAnswers (v : Byte) : (s.setLcr v).signalAnswers = s.signalAnswers := rfl
@[simp] theorem Uart.State.setLcr_sinkAnswers (v : Byte) : (s.setLcr v).sinkAnswers = s.sinkAnswers := rfl
@[simp] theorem Uart.State.setLcr_signalDraws (v : Byte) : (s.setLcr v).signalDraws = s.signalDraws := rfl
@[simp] theorem Uart.State.setLcr_sinkDraws (v : Byte) : (s.setLcr v).sinkDraws = s.sinkDraws := rfl
@[simp] theorem Uart.State.setLcr_trace (v : Byte) : (s.setLcr v).trace = s.trace := rfl

/-! ### setLsr -/
@[simp] theorem Uart.State.setLsr_dll (v : Byte) : (s.setLsr v).dll = s.dll := rfl
@[simp] theorem Uart.State.setLsr_dlm (v : Byte) : (s.setLsr v).dlm = s.dlm := rfl
@[simp] theorem Uart.State.setLsr_ier (v : Byte) : (s.setLsr v).ier = s.ier := rfl
@[simp] theorem Uart.State.setLsr_iir (v : Byte) : (s.setLsr v).iir = s.iir := rfl
@[simp] theorem Uart.State.setLsr_lcr (v : Byte) : (s.setLsr v).lcr = s.lcr := rfl
@[simp] theorem Uart.State.setLsr_lsr (v : Byte) : (s.setLsr v).lsr = v := rfl
@[simp] theorem Uart.State.setLsr_mcr (v : Byte) : (s.setLsr v).mcr = s.mcr := rfl
@[simp] theorem Uart.State.setLsr_msr (v : Byte) : (s.setLsr v).msr = s.msr := rfl
@[simp] theorem Uart.State.setLsr_scr (v : Byte) : (s.setLsr v).scr = s.scr := rfl
@[simp] theorem Uart.State.setLsr_rxq (v : Byte) : (s.setLsr v).rxq = s.rxq := rfl
@[simp] theorem Uart.State.setLsr_params (v : Byte) : (s.setLsr v).params = s.params := rfl
@[simp] theorem Uart.State.setLsr_pending (v : Byte) : (s.setLsr v).pending = s.pending := rfl
@[simp] theorem Uart.State.setLsr_signalAnswers (v : Byte) : (s.setLsr v).signalAnswers = s.signalAnswers := rfl
@[simp] theorem Uart.State.setLsr_sinkAnswers (v : Byte) : (s.setLsr v).sinkAnswers = s.sinkAnswers := rfl
@[simp] theorem Uart.State.setLsr_signalDraws (v : Byte) : (s.setLsr v).signalDraws = s.signalDraws := rfl
@[simp] theorem Uart.State.setLsr_sinkDraws (v : Byte) : (s.setLsr v).sinkDraws = s.sinkDraws := rfl
@[simp] theorem Uart.State.setLsr_trace (v : Byte) : (s.setLsr v).trace = s.trace := rfl

/-! ### setMcr -/
@[simp] theorem Uart.State.setMcr_dll (v : Byte) : (s.setMcr v).dll = s.dll := rfl
@[simp] theorem Uart.State.setMcr_dlm (v : Byte) : (s.setMcr v).dlm = s.dlm := rfl
@[simp] theorem Uart.State.setMcr_ier (v : Byte) : (s.setMcr v).ier = s.ier := rfl
@[simp] theorem Uart.State.setMcr_iir (v : Byte) : (s.setMcr v).iir = s.iir := rfl
@[simp] theorem Uart.State.setMcr_lcr (v : Byte) : (s.setMcr v).lcr = s.lcr := rfl
@[simp] theorem Uart.State.setMcr_lsr (v : Byte) : (s.setMcr v).lsr = s.lsr := rfl
@[simp] theorem Uart.State.setMcr_mcr (v : Byte) : (s.setMcr v).mcr = v := rfl
@[simp] theorem Uart.State.setMcr_msr (v : Byte) : (s.setMcr v).msr = s.msr := rfl
@[simp] theorem Uart.State.setMcr_scr (v : Byte) : (s.setMcr v).scr = s.scr := rfl
@[simp] theorem Uart.State.setMcr_rxq (v : Byte) : (s.setMcr v).rxq = s.rxq := rfl
@[simp] theorem Uart.State.setMcr_params (v : Byte) : (s.setMcr v).params = s.params := rfl
@[simp] theorem Uart.State.setMcr_pending (v : Byte) : (s.setMcr v).pending = s.pending := rfl
@[simp] theorem Uart.State.setMcr_signalAnswers (v : Byte) : (s.setMcr v).signalAnswers = s.signalAnswers := rfl
@[simp] theorem Uart.State.setMcr_sinkAnswers (v : Byte) : (s.setMcr v).sinkAnswers = s.sinkAnswers := rfl
@[simp] theorem Uart.State.setMcr_signalDraws (v : Byte) : (s.setMcr v).signalDraws = s.signalDraws := rfl
@[simp] theorem Uart.State.setMcr_sinkDraws (v : Byte) : (s.setMcr v).sinkDraws = s.sinkDraws := rfl
@[simp] theorem Uart.State.setMcr_trace (v : Byte) : (s.setMcr v).trace = s.trace := rfl

/-! ### setScr -/
@[simp] theorem Uart.State.setScr_dll (v : Byte) : (s.setScr v).dll = s.dll := rfl
@[simp] theorem Uart.State.setScr_dlm (v : Byte) : (s.setScr v).dlm = s.dlm := rfl
@[simp] theorem Uart.State.setScr_ier (v : Byte) : (s.setScr v).ier = s.ier := rfl
@[simp] theorem Uart.State.setScr_iir (v : Byte) : (s.setScr v).iir = s.iir := rfl
@[simp] theorem Uart.State.setScr_lcr (v : Byte) : (s.setScr v).lcr = s.lcr := rfl
@[simp] theorem Uart.State.setScr_lsr (v : Byte) : (s.setScr v).lsr = s.lsr := rfl
@[simp] theorem Uart.State.setScr_mcr (v : Byte) : (s.setScr v).mcr = s.mcr := rfl
@[simp] theorem Uart.State.setScr_msr (v : Byte) : (s.setScr v).msr = s.msr := rfl
@[simp] theorem Uart.State.setScr_scr (v : Byte) : (s.setScr v).scr = v := rfl
@[simp] theorem Uart.State.setScr_rxq (v : Byte) : (s.setScr v).rxq = s.rxq := rfl
@[simp] theorem Uart.State.setScr_params (v : Byte) : (s.setScr v).params = s.params := rfl
@[simp] theorem Uart.State.setScr_pending (v : Byte) : (s.setScr v).pending = s.pending := rfl
@[simp] theorem Uart.State.setScr_signalAnswers (v : Byte) : (s.setScr v).signalAnswers = s.signalAnswers := rfl
@[simp] theorem Uart.State.setScr_sinkAnswers (v : Byte) : (s.setScr v).sinkAnswers = s.sinkAnswers := rfl
@[simp] theorem Uart.State.setScr_signalDraws (v : Byte) : (s.setScr v).signalDraws = s.signalDraws := rfl
@[simp] theorem Uart.State.setScr_sinkDraws (v : Byte) : (s.setScr v).sinkDraws = s.sinkDraws := rfl
@[simp] theorem Uart.State.setScr_trace (v : Byte) : (s.setScr v).trace = s.trace := rfl

/-! ### setRxq -/
@[simp] theorem Uart.State.setRxq_dll (q : List Byte) : (s.setRxq q).dll = s.dll := rfl
@[simp] theorem Uart.State.setRxq_dlm (q : List Byte) : (s.setRxq q).dlm = s.dlm := rfl
@[simp] theorem Uart.State.setRxq_ier (q : List Byte) : (s.setRxq q).ier = s.ier := rfl
@[simp] theorem Uart.State.setRxq_iir (q : List Byte) : (s.setRxq q).iir = s.iir := rfl
@[simp] theorem Uart.State.setRxq_lcr (q : List Byte) : (s.setRxq q).lcr = s.lcr := rfl
@[simp] theorem Uart.State.setRxq_lsr (q : List Byte) : (s.setRxq q).lsr = s.lsr := rfl
@[simp] theorem Uart.State.setRxq_mcr (q : List Byte) : (s.setRxq q).mcr = s.mcr := rfl
@[simp] theorem Uart.State.setRxq_msr (q : List Byte) : (s.setRxq q).msr = s.msr := rfl
@[simp] theorem Uart.State.setRxq_scr (q : List Byte) : (s.setRxq q).scr = s.scr := rfl
@[simp] theorem Uart.State.setRxq_rxq (q : List Byte) : (s.setRxq q).rxq = q := rfl
@[simp] theorem Uart.State.setRxq_params (q : List Byte) : (s.setRxq q).params = s.params := rfl
@[simp] theorem Uart.State.setRxq_pending (q : List Byte) : (s.setRxq q).pending = s.pending := rfl
@[simp] theorem Uart.State.setRxq_signalAnswers (q : List Byte) : (s.setRxq q).signalAnswers = s.signalAnswers := rfl
@[simp] theorem Uart.State.setRxq_sinkAnswers (q : List Byte) : (s.setRxq q).sinkAnswers = s.sinkAnswers := rfl
@[simp] theorem Uart.State.setRxq_signalDraws (q : List Byte) : (s.setRxq q).signalDraws = s.signalDraws := rfl
@[simp] theorem Uart.State.setRxq_sinkDraws (q : List Byte) : (s.setRxq q).sinkDraws = s.sinkDraws := rfl
@[simp] theorem Uart.State.setRxq_trace (q : List Byte) : (s.setRxq q).trace = s.trace := rfl

/-! ### setPending -/
@[simp] theorem Uart.State.setPending_dll (l : List Input) : (s.setPending l).dll = s.dll := rfl
@[simp] theorem Uart.State.setPending_dlm (l : List Input) : (s.setPending l).dlm = s.dlm := rfl
@[simp] theorem Uart.State.setPending_ier (l : List Input) : (s.setPending l).ier = s.ier := rfl
@[simp] theorem Uart.State.setPending_iir (l : List Input) : (s.setPending l).iir = s.iir := rfl
@[simp] theorem Uart.State.setPending_lcr (l : List Input) : (s.setPending l).lcr = s.lcr := rfl
@[simp] theorem Uart.State.setPending_lsr (l : List Input) : (s.setPending l).lsr = s.lsr := rfl
@[simp] theorem Uart.State.setPending_mcr (l : List Input) : (s.setPending l).mcr = s.mcr := rfl
@[simp] theorem Uart.State.setPending_msr (l : List Input) : (s.setPending l).msr = s.msr := rfl
@[simp] theorem Uart.State.setPending_scr (l : List Input) : (s.setPending l).scr = s.scr := rfl
@[simp] theorem Uart.State.setPending_rxq (l : List Input) : (s.setPending l).rxq = s.rxq := rfl
@[simp] theorem Uart.State.setPending_params (l : List Input) : (s.setPending l).params = s.params := rfl
@[simp] theorem Uart.State.setPending_pending (l : List Input) : (s.setPending l).pending = l := rfl
@[simp] theorem Uart.State.setPending_signalAnswers (l : List Input) :
    (s.setPending l).signalAnswers = s.signalAnswers := rfl
@[simp] theorem Uart.State.setPending_sinkAnswers (l : List Input) : (s.setPending l).sinkAnswers = s.sinkAnswers := rfl
@[simp] theorem Uart.State.setPending_signalDraws (l : List Input) : (s.setPending l).signalDraws = s.signalDraws := rfl
@[simp] theorem Uart.State.setPending_sinkDraws (l : List Input) : (s.setPending l).sinkDraws = s.sinkDraws := rfl
@[simp] theorem Uart.State.setPending_trace (l : List Input) : (s.setPending l).trace = s.trace := rfl

/-! ### emit -/
@[simp] theorem Uart.State.emit_dll (e : Event E_SIG E_IO) : (s.emit e).dll = s.dll := rfl
@[simp] theorem Uart.State.emit_dlm (e : Event E_SIG E_IO) : (s.emit e).dlm = s.dlm := rfl
@[simp] theorem Uart.State.emit_ier (e : Event E_SIG E_IO) : (s.emit e).ier = s.ier := rfl
@[simp] theorem Uart.State.emit_iir (e : Event E_SIG E_IO) : (s.emit e).iir = s.iir := rfl
@[simp] theorem Uart.State.emit_lcr (e : Event E_SIG E_IO) : (s.emit e).lcr = s.lcr := rfl
@[simp] theorem Uart.State.emit_lsr (e : Event E_SIG E_IO) : (s.emit e).lsr = s.lsr := rfl
@[simp] theorem Uart.State.emit_mcr (e : Event E_SIG E_IO) : (s.emit e).mcr = s.mcr := rfl
@[simp] theorem Uart.State.emit_msr (e : Event E_SIG E_IO) : (s.emit e).msr = s.msr := rfl
@[simp] theorem Uart.State.emit_scr (e : Event E_SIG E_IO) : (s.emit e).scr = s.scr := rfl
@[simp] theorem Uart.State.emit_rxq (e : Event E_SIG E_IO) : (s.emit e).rxq = s.rxq := rfl
@[simp] theorem Uart.State.emit_params (e : Event E_SIG E_IO) : (s.emit e).params = s.params := rfl
@[simp] theorem Uart.State.emit_pending (e : Event E_SIG E_IO) : (s.emit e).pending = s.pending := rfl
@[simp] theorem Uart.State.emit_signalAnswers (e : Event E_SIG E_IO) : (s.emit e).signalAnswers = s.signalAnswers := rfl
@[simp] theorem Uart.State.emit_sinkAnswers (e : Event E_SIG E_IO) : (s.emit e).sinkAnswers = s.sinkAnswers := rfl
@[simp] theorem Uart.State.emit_signalDraws (e : Event E_SIG E_IO) : (s.emit e).signalDraws = s.signalDraws := rfl
@[simp] theorem Uart.State.emit_sinkDraws (e : Event E_SIG E_IO) : (s.emit e).sinkDraws = s.sinkDraws := rfl
@[simp] theorem Uart.State.emit_trace (e : Event E_SIG E_IO) : (s.emit e).trace = s.trace ++ [e] := rfl

/-! ### callSignal -/
@[simp] theorem callSignal_dll : (callSignal s).dll = s.dll := rfl
@[simp] theorem callSignal_dlm : (callSignal s).dlm = s.dlm := rfl
@[simp] theorem callSignal_ier : (callSignal s).ier = s.ier := rfl
@[simp] theorem callSignal_iir : (callSignal s).iir = s.iir := rfl
@[simp] theorem callSignal_lcr : (callSignal s).lcr = s.lcr := rfl
@[simp] theorem callSignal_lsr : (callSignal s).lsr = s.lsr := rfl
@[simp] theorem callSignal_mcr : (callSignal s).mcr = s.mcr := rfl
@[simp] theorem callSignal_msr : (callSignal s).msr = s.msr := rfl
@[simp] theorem callSignal_scr : (callSignal s).scr = s.scr := rfl
@[simp] theorem callSignal_rxq : (callSignal s).rxq = s.rxq := rfl
@[simp] theorem callSignal_params : (callSignal s).params = s.params := rfl
@[simp] theorem callSignal_pending : (callSignal s).pending = s.pending := rfl
@[simp] theorem callSignal_signalAnswers : (callSignal s).signalAnswers = s.signalAnswers.tail := rfl
@[simp] theorem callSignal_sinkAnswers : (callSignal s).sinkAnswers = s.sinkAnswers := rfl
@[simp] theorem callSignal_signalDraws :
    (callSignal s).signalDraws = if s.signalAnswers.isEmpty then s.signalDraws + 1 else s.signalDraws := rfl
@[simp] theorem callSignal_sinkDraws : (callSignal s).sinkDraws = s.sinkDraws := rfl
@[simp] theorem callSignal_trace : (callSignal s).trace = s.trace ++ [.signal (signalAnswer s)] := rfl

/-! ### callSink -/
@[simp] theorem callSink_dll (c : SinkCall) : (callSink s c).dll = s.dll := rfl
@[simp] theorem callSink_dlm (c : SinkCall) : (callSink s c).dlm = s.dlm := rfl
@[simp] theorem callSink_ier (c : SinkCall) : (callSink s c).ier = s.ier := rfl
@[simp] theorem callSink_iir (c : SinkCall) : (callSink s c).iir = s.iir := rfl
@[simp] theorem callSink_lcr (c : SinkCall) : (callSink s c).lcr = s.lcr := rfl
@[simp] theorem callSink_lsr (c : SinkCall) : (callSink s c).lsr = s.lsr := rfl
@[simp] theorem callSink_mcr (c : SinkCall) : (callSink s c).mcr = s.mcr := rfl
@[simp] theorem callSink_msr (c : SinkCall) : (callSink s c).msr = s.msr := rfl
@[simp] theorem callSink_scr (c : SinkCall) : (callSink s c).scr = s.scr := rfl
@[simp] theorem callSink_rxq (c : SinkCall) : (callSink s c).rxq = s.rxq := rfl
@[simp] theorem callSink_params (c : SinkCall) : (callSink s c).params = s.params := rfl
@[simp] theorem callSink_pending (c : SinkCall) : (callSink s c).pending = s.pending := rfl
@[simp] theorem callSink_signalAnswers (c : SinkCall) : (callSink s c).signalAnswers = s.signalAnswers := rfl
@[simp] theorem callSink_sinkAnswers (c : SinkCall) : (callSink s c).sinkAnswers = s.sinkAnswers.tail := rfl
@[simp] theorem callSink_signalDraws (c : SinkCall) : (callSink s c).signalDraws = s.signalDraws := rfl
@[simp] theorem callSink_sinkDraws (c : SinkCall) :
    (callSink s c).sinkDraws = if s.sinkAnswers.isEmpty then s.sinkDraws + 1 else s.sinkDraws := rfl
@[simp] theorem callSink_trace (c : SinkCall) : (callSink s c).trace = s.trace ++ [sinkEvent c (sinkAnswer s c)] := rfl

end Sys2Proof.Machine
end

