-- ==== Sys2Proof/Laws/Ops.lean ====
section
/-! SUPPORT. One spec lemma per shared operation: everything it can do, for later proofs to cite. -/

namespace Sys2Proof.Machine

variable {E_SIG E_IO : Type}

/-! ### Bits -/

/-- A one-bit mask tests that bit. -/
theorem dlabSet_eq (s : Uart.State E_SIG E_IO) : s.dlabSet = s.lcr[7] := by
  have h : ∀ b : Byte, (b &&& lcrDlab != 0#8) = b[7] := by decide
  exact h s.lcr

theorem loopMode_eq (s : Uart.State E_SIG E_IO) : s.loopMode = s.mcr[4] := by
  have h : ∀ b : Byte, (b &&& mcrLoop != 0#8) = b[4] := by decide
  exact h s.mcr

theorem ierRda_eq (ier : Byte) : enabledIn .rda ier = ier[0] := by
  have h : ∀ b : Byte, (b &&& ierRda != 0#8) = b[0] := by decide
  exact h ier

theorem ierThre_eq (ier : Byte) : enabledIn .thre ier = ier[1] := by
  have h : ∀ b : Byte, (b &&& ierThre != 0#8) = b[1] := by decide
  exact h ier

theorem iirRda_eq (iir : Byte) : outstandingIn .rda iir = iir[2] := by
  have h : ∀ b : Byte, (b &&& iirRda != 0#8) = b[2] := by decide
  exact h iir

theorem iirThre_eq (iir : Byte) : outstandingIn .thre iir = iir[1] := by
  have h : ∀ b : Byte, (b &&& iirThre != 0#8) = b[1] := by decide
  exact h iir

/-- `add_cause` marks the cause, clears NONE and keeps the other cause (R72). -/
theorem withCause_spec (c c' : Cause) (iir : Byte) :
    outstandingIn c' (withCause c iir) = (decide (c' = c) || outstandingIn c' iir) ∧
      withCause c iir &&& iirNone = 0#8 := by
  cases c <;> cases c' <;> revert iir <;> decide

/-- `del_cause` clears the cause and keeps the other one (R73). -/
theorem withoutCause_spec (c c' : Cause) (iir : Byte) :
    outstandingIn c' (withoutCause c iir) = (decide (c' ≠ c) && outstandingIn c' iir) := by
  cases c <;> cases c' <;> revert iir <;> decide

/-! ### Raising (R75, R76) -/

/-- A trigger of a masked or outstanding cause does nothing (R75). -/
theorem trigger_absorbed {c : Cause} {s : Uart.State E_SIG E_IO} (h : fires c s = false) : trigger c s = (s, .ok) := by
  simp [trigger, h]

/-- A trigger that fires marks the cause and makes one Signal() (R75). -/
theorem trigger_fired {c : Cause} {s : Uart.State E_SIG E_IO} (h : fires c s = true) :
    trigger c s = (callSignal (addCause c s), respOfSignal (signalAnswer s)) := by
  simp [trigger, h, addCause, signalAnswer]

/-- All a trigger can do. -/
theorem trigger_cases (c : Cause) (s : Uart.State E_SIG E_IO) :
    (fires c s = false ∧ trigger c s = (s, .ok)) ∨
      (fires c s = true ∧ trigger c s = (callSignal (addCause c s), respOfSignal (signalAnswer s))) := by
  cases h : fires c s
  · exact .inl ⟨rfl, trigger_absorbed h⟩
  · exact .inr ⟨rfl, trigger_fired h⟩

/-- A trigger touches IIR, the signal's answers and the trace only. -/
theorem trigger_frame (c : Cause) (s : Uart.State E_SIG E_IO) :
    ∃ iir ans draws tr, (trigger c s).1 =
      { s with iir := iir, signalAnswers := ans, signalDraws := draws, trace := tr } := by
  obtain ⟨_, h⟩ | ⟨_, h⟩ := trigger_cases c s <;> rw [h]
  · exact ⟨s.iir, s.signalAnswers, s.signalDraws, s.trace, rfl⟩
  · exact ⟨_, _, _, _, rfl⟩

/-- Raising never fails with an Output Sink error. -/
theorem trigger_resp (c : Cause) (s : Uart.State E_SIG E_IO) (e : E_IO) : (trigger c s).2 ≠ .errIo e := by
  obtain ⟨_, h⟩ | ⟨_, h⟩ := trigger_cases c s <;> rw [h]
  · simp
  · cases signalAnswer s <;> simp [respOfSignal]

/-! ### Queue and data-ready (R14, R77, R93) -/

@[simp] theorem enqueue_rxq (s : Uart.State E_SIG E_IO) (b : List Byte) : (s.enqueue b).rxq = s.rxq ++ b := rfl
@[simp] theorem dequeue_rxq (s : Uart.State E_SIG E_IO) : s.dequeue.rxq = s.rxq.tail := rfl
@[simp] theorem setDr_lsr (s : Uart.State E_SIG E_IO) : (setDr s).lsr = withDr s.lsr := rfl
@[simp] theorem clearDr_lsr (s : Uart.State E_SIG E_IO) : (clearDr s).lsr = withoutDr s.lsr := rfl

/-- The data read's clear touches LSR only (R93). -/
theorem clearDrIfDrained_eq (s : Uart.State E_SIG E_IO) :
    clearDrIfDrained s = s.setLsr (if s.rxq.length ≤ 1 then withoutDr s.lsr else s.lsr) := by
  unfold clearDrIfDrained
  split <;> rfl

/-- Announcing data is a trigger after the data-ready set (R81, R102). -/
theorem announceData_eq (s : Uart.State E_SIG E_IO) : announceData s = trigger .rda (s.setLsr (withDr s.lsr)) := rfl

/-! ### Transmission (R81) -/

/-- All a transmission can do: one of the two sink calls fails and ends it, or THR-empty is triggered. -/
theorem transmit_cases (v : Byte) (s : Uart.State E_SIG E_IO) :
    (∃ e, sinkAnswer s (.write v) = .err e ∧ transmit v s = (callSink s (.write v), .errIo e)) ∨
    (∃ e, sinkAnswer s (.write v) = .ok ∧ sinkAnswer (callSink s (.write v)) .flush = .err e ∧
      transmit v s = (callSink (callSink s (.write v)) .flush, .errIo e)) ∨
    (sinkAnswer s (.write v) = .ok ∧ sinkAnswer (callSink s (.write v)) .flush = .ok ∧
      transmit v s = trigger .thre (callSink (callSink s (.write v)) .flush)) := by
  unfold transmit
  cases h1 : sinkAnswer s (.write v) with
  | err e => exact .inl ⟨e, rfl, rfl⟩
  | ok =>
    cases h2 : sinkAnswer (callSink s (.write v)) .flush with
    | err e => exact .inr (.inl ⟨e, rfl, rfl, rfl⟩)
    | ok => exact .inr (.inr ⟨rfl, rfl, rfl⟩)

/-- All a loopback data write can do: queue and announce, drop and announce, or drop. -/
theorem loopbackWrite_cases (v : Byte) (s : Uart.State E_SIG E_IO) :
    (s.rxq.length < 64 ∧ loopbackWrite v s = announceData (s.enqueue [v])) ∨
    (64 ≤ s.rxq.length ∧ s.params.fullWriteSignals = true ∧ loopbackWrite v s = announceData s) ∨
    (64 ≤ s.rxq.length ∧ s.params.fullWriteSignals = false ∧ loopbackWrite v s = (s, .ok)) := by
  unfold loopbackWrite fifoCap
  split
  · exact .inl ⟨‹_›, rfl⟩
  · have : 64 ≤ s.rxq.length := by omega
    cases h : s.params.fullWriteSignals
    · exact .inr (.inr ⟨this, rfl, by simp⟩)
    · exact .inr (.inl ⟨this, rfl, by simp⟩)

/-- All an injection outside loopback can do. -/
theorem injectBytes_cases (p : List Byte) (s : Uart.State E_SIG E_IO) :
    (p = [] ∧ s.params.emptyInject = false ∧ injectBytes p s = (s, .ok)) ∨
    ((p ≠ [] ∨ s.params.emptyInject = true) ∧ injectBytes p s = announceData (s.enqueue p)) := by
  unfold injectBytes
  cases p <;> cases h : s.params.emptyInject <;> simp

/-! ### What a trace shows -/

theorem signalCount_append (l m : List (Event E_SIG E_IO)) : signalCount (l ++ m) = signalCount l + signalCount m := by
  induction l with
  | nil => simp [signalCount]
  | cons x l ih =>
    cases x with
    | signal => simp [signalCount, ih]; omega
    | sinkWrite | sinkFlush | response => simp [signalCount, ih]

theorem sinkBytes_append (l m : List (Event E_SIG E_IO)) : sinkBytes (l ++ m) = sinkBytes l ++ sinkBytes m := by
  induction l with
  | nil => rfl
  | cons x l ih => cases x <;> simp [sinkBytes, ih]

theorem readBytes_append (l m : List (Event E_SIG E_IO)) : readBytes (l ++ m) = readBytes l ++ readBytes m := by
  induction l with
  | nil => rfl
  | cons x l ih =>
    cases x with
    | response r => cases r <;> simp [readBytes, ih]
    | signal | sinkWrite | sinkFlush => simp [readBytes, ih]

/-! ### Runs -/

/-- A run of no step stays where it is. -/
theorem run_zero (s : State) : Host.Core.run Sys2Proof.core 0 s = .next s := rfl

/-- A run begins with its first step. -/
theorem run_succ {s t : State} {k : Nat} (h : step s = .next t) :
    Host.Core.run Sys2Proof.core (k + 1) s = Host.Core.run Sys2Proof.core k t := by
  have e : Sys2Proof.core.step s = .next t := h
  simp only [Host.Core.run, e]

/-- A run goes on from where a shorter one ended. -/
theorem run_add {m n : Nat} {s t : State} (h : Host.Core.run Sys2Proof.core m s = .next t) :
    Host.Core.run Sys2Proof.core (m + n) s = Host.Core.run Sys2Proof.core n t := by
  induction m generalizing s with
  | zero =>
    rw [run_zero] at h
    cases h
    simp
  | succ m ih =>
    rw [Nat.add_right_comm]
    cases hs : step s with
    | next u =>
      rw [run_succ hs] at h ⊢
      exact ih h
    | fault r => cases r
    | refused r =>
      have e : Sys2Proof.core.step s = .refused r := hs
      simp [Host.Core.run, e] at h

/-! ### Fetch (R54, R61) -/

/-- A request of width 8 that decodes is run in the state without it. -/
theorem fetch_run {s : Uart.State E_SIG E_IO} {r : Request} {rest : List Input} {i : Instr}
    (hp : s.pending = .access r :: rest) (hw : r.width = 8) (hd : decode (descriptorOf r s) r.payload = .instr i) :
    fetch s = .run i (s.setPending rest) := by
  simp [fetch, hp, hw, hd]

/-- A request of the reserved KIND is refused (R66). -/
theorem fetch_reserved {s : Uart.State E_SIG E_IO} {r : Request} {rest : List Input} (hp : s.pending = .access r :: rest)
    (hw : r.width = 8) (hd : decode (descriptorOf r s) r.payload = .reservedKind) :
    fetch s = .refuse .reservedKind := by
  simp [fetch, hp, hw, hd]

/-- All a fetch can do. -/
theorem fetch_cases (s : Uart.State E_SIG E_IO) :
    (s.pending = [] ∧ fetch s = .idle) ∨
    (∃ rest, s.pending = .signalAccessor :: rest ∧ fetch s = .wiring (s.setPending rest)) ∨
    (∃ r rest i, s.pending = .access r :: rest ∧ r.width = 8 ∧ decode (descriptorOf r s) r.payload = .instr i ∧
      fetch s = .run i (s.setPending rest)) ∨
    (∃ r rest, s.pending = .access r :: rest ∧ r.width = 8 ∧ decode (descriptorOf r s) r.payload = .reservedKind ∧
      fetch s = .refuse .reservedKind) ∨
    (∃ r rest, s.pending = .access r :: rest ∧ r.width ≠ 8 ∧ fetch s = .refuse (.accessWidth r.width)) := by
  unfold fetch
  split
  · exact .inl ⟨‹_›, rfl⟩
  · exact .inr (.inl ⟨_, ‹_›, rfl⟩)
  · split
    · split
      · exact .inr (.inr (.inl ⟨_, _, _, ‹_›, ‹_›, ‹_›, rfl⟩))
      · exact .inr (.inr (.inr (.inl ⟨_, _, ‹_›, ‹_›, ‹_›, rfl⟩)))
    · exact .inr (.inr (.inr (.inr ⟨_, _, ‹_›, ‹_›, rfl⟩)))

end Sys2Proof.Machine
end

