-- ==== Sys2Proof/Laws/PerInstr.lean ====
section
/-! SUPPORT. The family RowMatch, per transaction: its encoding falls into its own row of the opcode table (R65). -/

namespace Sys2Proof.Laws.RowMatch

/-- The mnemonic of a transaction's row (R65). -/
def mnemonicOf : Instr → String
  | .wrDll _ => "WR_DLL"
  | .wrDlm _ => "WR_DLM"
  | .wrThr _ => "WR_THR"
  | .wrIer _ => "WR_IER"
  | .wrIir _ => "WR_IIR"
  | .wrLcr _ => "WR_LCR"
  | .wrMcr _ => "WR_MCR"
  | .wrLsr _ => "WR_LSR"
  | .wrMsr _ => "WR_MSR"
  | .wrScr _ => "WR_SCR"
  | .wrNop _ _ => "WR_NOP"
  | .rdDll => "RD_DLL"
  | .rdDlm => "RD_DLM"
  | .rdRbr => "RD_RBR"
  | .rdIer => "RD_IER"
  | .rdIir => "RD_IIR"
  | .rdLcr => "RD_LCR"
  | .rdMcr => "RD_MCR"
  | .rdLsr => "RD_LSR"
  | .rdMsr => "RD_MSR"
  | .rdScr => "RD_SCR"
  | .rdNop _ => "RD_NOP"
  | .inj _ => "INJ"

/-- The table holds a row of the transaction's mnemonic that its encoding matches and that builds it back. -/
def Statement (i : Instr) : Prop :=
  ∃ r ∈ opcodeTable, r.mnemonic = mnemonicOf i ∧ r.matchesWord (encode i).1 = true ∧ r.build (encode i).1 (encode i).2 = i

/-- A write's row leaves the data byte free, so one check over all bytes settles the match. -/
theorem matches_of_forall {r : OpcodeRow} {f : Byte → Descriptor} (h : ∀ b : Byte, f b &&& r.mask = r.matchBits)
    (v : Byte) : r.matchesWord (f v) = true := by simp [OpcodeRow.matchesWord, h v]

/-- The last WR row sees only KIND. -/
theorem wrNop_matches (off : Offset) (v : Byte) : wrNopRow.matchesWord (mkDescriptor kindWr false off v) = true := by
  have h : mkDescriptor kindWr false off v &&& 0x60000#19 = 0x20000#19 := by
    have mask : ∀ d : Descriptor, d &&& 0x60000#19 = mkDescriptor (kindOf d) false 0#8 0#8 := by
      intro d
      apply BitVec.eq_of_getLsbD_eq
      intro i hi
      rw [BitVec.getLsbD_and]
      simp only [mkDescriptor, kindOf, BitVec.getLsbD_append, BitVec.getLsbD_extractLsb']
      interval_cases i <;> simp
    rw [mask, kindOf_mkDescriptor]
    decide
  simp [OpcodeRow.matchesWord, wrNopRow, h]

/-- The last RD row sees only KIND. -/
theorem rdNop_matches (off : Offset) : rdNopRow.matchesWord (mkDescriptor kindRd false off 0#8) = true := by
  have h : ∀ b : Byte, mkDescriptor kindRd false b 0#8 &&& 0x60000#19 = 0x00000#19 := by decide
  simp [OpcodeRow.matchesWord, rdNopRow, h off]

theorem wrDll (v : Byte) : Statement (.wrDll v) :=
  ⟨opcodeTable[0], List.getElem_mem _, rfl, matches_of_forall (by decide) v, by simp [opcodeTable, writeRows, encode]⟩

theorem wrDlm (v : Byte) : Statement (.wrDlm v) :=
  ⟨opcodeTable[1], List.getElem_mem _, rfl, matches_of_forall (by decide) v, by simp [opcodeTable, writeRows, encode]⟩

theorem wrThr (v : Byte) : Statement (.wrThr v) :=
  ⟨opcodeTable[2], List.getElem_mem _, rfl, matches_of_forall (by decide) v, by simp [opcodeTable, writeRows, encode]⟩

theorem wrIer (v : Byte) : Statement (.wrIer v) :=
  ⟨opcodeTable[3], List.getElem_mem _, rfl, matches_of_forall (by decide) v, by simp [opcodeTable, writeRows, encode]⟩

theorem wrIir (v : Byte) : Statement (.wrIir v) :=
  ⟨opcodeTable[4], List.getElem_mem _, rfl, matches_of_forall (by decide) v, by simp [opcodeTable, writeRows, encode]⟩

theorem wrLcr (v : Byte) : Statement (.wrLcr v) :=
  ⟨opcodeTable[5], List.getElem_mem _, rfl, matches_of_forall (by decide) v, by simp [opcodeTable, writeRows, encode]⟩

theorem wrMcr (v : Byte) : Statement (.wrMcr v) :=
  ⟨opcodeTable[6], List.getElem_mem _, rfl, matches_of_forall (by decide) v, by simp [opcodeTable, writeRows, encode]⟩

theorem wrLsr (v : Byte) : Statement (.wrLsr v) :=
  ⟨opcodeTable[7], List.getElem_mem _, rfl, matches_of_forall (by decide) v, by simp [opcodeTable, writeRows, encode]⟩

theorem wrMsr (v : Byte) : Statement (.wrMsr v) :=
  ⟨opcodeTable[8], List.getElem_mem _, rfl, matches_of_forall (by decide) v, by simp [opcodeTable, writeRows, encode]⟩

theorem wrScr (v : Byte) : Statement (.wrScr v) :=
  ⟨opcodeTable[9], List.getElem_mem _, rfl, matches_of_forall (by decide) v, by simp [opcodeTable, writeRows, encode]⟩

theorem wrNop (off : Offset) (v : Byte) : Statement (.wrNop off v) :=
  ⟨wrNopRow, by simp [opcodeTable], rfl, wrNop_matches off v, by simp [wrNopRow, encode]⟩

theorem rdDll : Statement .rdDll :=
  ⟨opcodeTable[11], List.getElem_mem _, rfl, by decide, rfl⟩

theorem rdDlm : Statement .rdDlm :=
  ⟨opcodeTable[12], List.getElem_mem _, rfl, by decide, rfl⟩

theorem rdRbr : Statement .rdRbr :=
  ⟨opcodeTable[13], List.getElem_mem _, rfl, by decide, rfl⟩

theorem rdIer : Statement .rdIer :=
  ⟨opcodeTable[14], List.getElem_mem _, rfl, by decide, rfl⟩

theorem rdIir : Statement .rdIir :=
  ⟨opcodeTable[15], List.getElem_mem _, rfl, by decide, rfl⟩

theorem rdLcr : Statement .rdLcr :=
  ⟨opcodeTable[16], List.getElem_mem _, rfl, by decide, rfl⟩

theorem rdMcr : Statement .rdMcr :=
  ⟨opcodeTable[17], List.getElem_mem _, rfl, by decide, rfl⟩

theorem rdLsr : Statement .rdLsr :=
  ⟨opcodeTable[18], List.getElem_mem _, rfl, by decide, rfl⟩

theorem rdMsr : Statement .rdMsr :=
  ⟨opcodeTable[19], List.getElem_mem _, rfl, by decide, rfl⟩

theorem rdScr : Statement .rdScr :=
  ⟨opcodeTable[20], List.getElem_mem _, rfl, by decide, rfl⟩

theorem rdNop (off : Offset) : Statement (.rdNop off) :=
  ⟨rdNopRow, by simp [opcodeTable], rfl, rdNop_matches off, by simp [rdNopRow, encode]⟩

theorem inj (payload : List Byte) : Statement (.inj payload) :=
  ⟨injRow, by simp [opcodeTable], rfl,
    (by decide : injRow.matchesWord (mkDescriptor kindInj false 0#8 0#8) = true), rfl⟩

end Sys2Proof.Laws.RowMatch
end

