-- ==== Sys2Proof/Laws/Safety.lean ====
section
/-! SUPPORT. One lemma per field of the states the statements build: after a bare response, with the stored-only bits
cleared, with the error payloads renamed. -/

namespace Sys2Proof.Machine

variable {E_SIG E_IO E_SIG' E_IO' : Type} (s : Uart.State E_SIG E_IO)

/-! ### responded -/
@[simp] theorem Uart.State.responded_dll (r : Response E_SIG E_IO) : (s.responded r).dll = s.dll := rfl
@[simp] theorem Uart.State.responded_dlm (r : Response E_SIG E_IO) : (s.responded r).dlm = s.dlm := rfl
@[simp] theorem Uart.State.responded_ier (r : Response E_SIG E_IO) : (s.responded r).ier = s.ier := rfl
@[simp] theorem Uart.State.responded_iir (r : Response E_SIG E_IO) : (s.responded r).iir = s.iir := rfl
@[simp] theorem Uart.State.responded_lcr (r : Response E_SIG E_IO) : (s.responded r).lcr = s.lcr := rfl
@[simp] theorem Uart.State.responded_lsr (r : Response E_SIG E_IO) : (s.responded r).lsr = s.lsr := rfl
@[simp] theorem Uart.State.responded_mcr (r : Response E_SIG E_IO) : (s.responded r).mcr = s.mcr := rfl
@[simp] theorem Uart.State.responded_msr (r : Response E_SIG E_IO) : (s.responded r).msr = s.msr := rfl
@[simp] theorem Uart.State.responded_scr (r : Response E_SIG E_IO) : (s.responded r).scr = s.scr := rfl
@[simp] theorem Uart.State.responded_rxq (r : Response E_SIG E_IO) : (s.responded r).rxq = s.rxq := rfl
@[simp] theorem Uart.State.responded_params (r : Response E_SIG E_IO) : (s.responded r).params = s.params := rfl
@[simp] theorem Uart.State.responded_pending (r : Response E_SIG E_IO) : (s.responded r).pending = s.pending := rfl
@[simp] theorem Uart.State.responded_signalAnswers (r : Response E_SIG E_IO) : (s.responded r).signalAnswers = s.signalAnswers := rfl
@[simp] theorem Uart.State.responded_sinkAnswers (r : Response E_SIG E_IO) : (s.responded r).sinkAnswers = s.sinkAnswers := rfl
@[simp] theorem Uart.State.responded_signalDraws (r : Response E_SIG E_IO) : (s.responded r).signalDraws = s.signalDraws := rfl
@[simp] theorem Uart.State.responded_sinkDraws (r : Response E_SIG E_IO) : (s.responded r).sinkDraws = s.sinkDraws := rfl
@[simp] theorem Uart.State.responded_trace (r : Response E_SIG E_IO) : (s.responded r).trace = s.trace ++ [.response r] := rfl

/-! ### withoutIdleBits -/
@[simp] theorem Uart.State.withoutIdleBits_dll : s.withoutIdleBits.dll = 0x00#8 := rfl
@[simp] theorem Uart.State.withoutIdleBits_dlm : s.withoutIdleBits.dlm = 0x00#8 := rfl
@[simp] theorem Uart.State.withoutIdleBits_ier : s.withoutIdleBits.ier = s.ier &&& 0x03#8 := rfl
@[simp] theorem Uart.State.withoutIdleBits_iir : s.withoutIdleBits.iir = s.iir := rfl
@[simp] theorem Uart.State.withoutIdleBits_lcr : s.withoutIdleBits.lcr = s.lcr &&& 0x80#8 := rfl
@[simp] theorem Uart.State.withoutIdleBits_lsr : s.withoutIdleBits.lsr = s.lsr := rfl
@[simp] theorem Uart.State.withoutIdleBits_mcr : s.withoutIdleBits.mcr = s.mcr &&& 0x1F#8 := rfl
@[simp] theorem Uart.State.withoutIdleBits_msr : s.withoutIdleBits.msr = s.msr := rfl
@[simp] theorem Uart.State.withoutIdleBits_scr : s.withoutIdleBits.scr = 0x00#8 := rfl
@[simp] theorem Uart.State.withoutIdleBits_rxq : s.withoutIdleBits.rxq = s.rxq := rfl
@[simp] theorem Uart.State.withoutIdleBits_params : s.withoutIdleBits.params = s.params := rfl
@[simp] theorem Uart.State.withoutIdleBits_pending : s.withoutIdleBits.pending = s.pending := rfl
@[simp] theorem Uart.State.withoutIdleBits_signalAnswers : s.withoutIdleBits.signalAnswers = s.signalAnswers := rfl
@[simp] theorem Uart.State.withoutIdleBits_sinkAnswers : s.withoutIdleBits.sinkAnswers = s.sinkAnswers := rfl
@[simp] theorem Uart.State.withoutIdleBits_signalDraws : s.withoutIdleBits.signalDraws = s.signalDraws := rfl
@[simp] theorem Uart.State.withoutIdleBits_sinkDraws : s.withoutIdleBits.sinkDraws = s.sinkDraws := rfl
@[simp] theorem Uart.State.withoutIdleBits_trace : s.withoutIdleBits.trace = s.trace := rfl

/-! ### relabel -/

variable (f : E_SIG → E_SIG') (g : E_IO → E_IO')

@[simp] theorem Uart.State.relabel_dll : (s.relabel f g).dll = s.dll := rfl
@[simp] theorem Uart.State.relabel_dlm : (s.relabel f g).dlm = s.dlm := rfl
@[simp] theorem Uart.State.relabel_ier : (s.relabel f g).ier = s.ier := rfl
@[simp] theorem Uart.State.relabel_iir : (s.relabel f g).iir = s.iir := rfl
@[simp] theorem Uart.State.relabel_lcr : (s.relabel f g).lcr = s.lcr := rfl
@[simp] theorem Uart.State.relabel_lsr : (s.relabel f g).lsr = s.lsr := rfl
@[simp] theorem Uart.State.relabel_mcr : (s.relabel f g).mcr = s.mcr := rfl
@[simp] theorem Uart.State.relabel_msr : (s.relabel f g).msr = s.msr := rfl
@[simp] theorem Uart.State.relabel_scr : (s.relabel f g).scr = s.scr := rfl
@[simp] theorem Uart.State.relabel_rxq : (s.relabel f g).rxq = s.rxq := rfl
@[simp] theorem Uart.State.relabel_params : (s.relabel f g).params = s.params := rfl
@[simp] theorem Uart.State.relabel_pending : (s.relabel f g).pending = s.pending := rfl
@[simp] theorem Uart.State.relabel_signalAnswers : (s.relabel f g).signalAnswers = s.signalAnswers.map (relabelAnswer f) := rfl
@[simp] theorem Uart.State.relabel_sinkAnswers : (s.relabel f g).sinkAnswers = s.sinkAnswers.map (relabelAnswer g) := rfl
@[simp] theorem Uart.State.relabel_signalDraws : (s.relabel f g).signalDraws = s.signalDraws := rfl
@[simp] theorem Uart.State.relabel_sinkDraws : (s.relabel f g).sinkDraws = s.sinkDraws := rfl
@[simp] theorem Uart.State.relabel_trace : (s.relabel f g).trace = s.trace.map (Event.relabel f g) := rfl

/-- Ending with a response commutes with renaming. -/
theorem Uart.State.emit_relabel (e : Event E_SIG E_IO) :
    (s.emit e).relabel f g = (s.relabel f g).emit (e.relabel f g) := by
  simp [Uart.State.emit, Uart.State.relabel]

end Sys2Proof.Machine
end

