-- ==== Sys2Proof/Tests/Slice0.lean ====
section
/-! SUPPORT. Tests and witnesses. Expected values come from the spec: the words from R65 and the D columns of
95_test_vectors.md, the results from its sections 1 and 2 (named beside each test) or from a rule's own example. A
`witness_` theorem shows a state and operands that meet the hypotheses of the obligation it names, clause by clause. -/

open Sys2Proof Sys2Proof.Machine

namespace Sys2Proof.Tests

/-! ### Helpers -/

/-- Reset with both open parameters false and capabilities that answer `ok` (the conventions of 95_test_vectors.md). -/
def start : State :=
  { State.reset with
    params := { fullWriteSignals := false, emptyInject := false }
    sinkAnswers := [.ok, .ok]
    signalAnswers := [.ok] }

/-- `start` in loopback. -/
def looped : State := start.setMcr 0x10#8

/-- `start` with numbers for error payloads. -/
def errs : Uart.State Nat Nat := start.relabel (fun _ => 0) (fun _ => 0)

/-- Some payload of each of this machine's error types. -/
def sigErr : SigError := Config.sigErrors.some
def ioErr : IoError := Config.ioErrors.some

/-- `n` queued bytes. -/
def bytes (n : Nat) : List Byte := List.replicate n 0x5A#8

/-- `start` asked for one input. -/
def asked (i : Input) : State := start.setPending [i]

/-- A snapshot that meets the invariants. -/
def goodRecord : Snapshot :=
  { dll := 0x01#8, dlm := 0x02#8, ier := 0x0F#8, iir := 0x06#8, lcr := 0x83#8, lsr := 0x61#8, mcr := 0x10#8,
    msr := 0xB0#8, scr := 0x5A#8, rxq := [0x41#8, 0x42#8] }

/-- The outcome is a next state for which `p` holds. -/
def ends {E_SIG E_IO : Type} (r : Result E_SIG E_IO) (p : Uart.State E_SIG E_IO → Bool) : Bool :=
  match r with
  | .next t => p t
  | .fault _ => false
  | .refused _ => false

/-- The next state's last event is the response `r`. -/
def answers {E_SIG E_IO : Type} [DecidableEq E_SIG] [DecidableEq E_IO] (r : Response E_SIG E_IO)
    (t : Uart.State E_SIG E_IO) : Bool := t.trace.getLast? == some (.response r)

/-- The block's registers and queue are those of `s`. -/
def sameRecord (s t : State) : Bool := t.snapshot == s.snapshot

/-- The first 24-bit word of each row of spec/opcode_table.json, the NOP rows at offset 8. -/
def tableWords : List Nat :=
  [0x30000, 0x30100, 0x20000, 0x20100, 0x20200, 0x20300, 0x20400, 0x20500, 0x20600, 0x20700, 0x20800,
   0x10000, 0x10100, 0x00000, 0x00100, 0x00200, 0x00300, 0x00400, 0x00500, 0x00600, 0x00700, 0x00800, 0x40000]

/-! ### Well-formedness smoke: the one check, at its boundary, in both rows -/

theorem test_wf_refuses_decoded_write_offset : (Instr.wrNop 0x07#8 0x41#8).wf = false := by decide
theorem test_wf_refuses_decoded_read_offset : (Instr.rdNop 0x00#8).wf = false := by decide
theorem test_wf_accepts_first_undecoded_offset :
    (Instr.wrNop 0x08#8 0x41#8).wf = true ∧ (Instr.rdNop 0x08#8).wf = true := by decide

/-! ### Decode: every row's word, written out from R65 (KIND, DL, OFF, DATA) -/

theorem test_decode_wrDll : decode 0b0110000000011111111#19 [] = .instr (.wrDll 0xFF#8) := by decide
theorem test_decode_wrDlm : decode 0b0110000000110000000#19 [] = .instr (.wrDlm 0x80#8) := by decide
theorem test_decode_wrThr : decode 0b0100000000001000001#19 [] = .instr (.wrThr 0x41#8) := by decide
theorem test_decode_wrIer : decode 0b0100000000111111111#19 [] = .instr (.wrIer 0xFF#8) := by decide
theorem test_decode_wrIir : decode 0b0110000001000000111#19 [] = .instr (.wrIir 0x07#8) := by decide
theorem test_decode_wrLcr : decode 0b0100000001110000000#19 [] = .instr (.wrLcr 0x80#8) := by decide
theorem test_decode_wrMcr : decode 0b0100000010000010000#19 [] = .instr (.wrMcr 0x10#8) := by decide
theorem test_decode_wrLsr : decode 0b0100000010100000000#19 [] = .instr (.wrLsr 0x00#8) := by decide
theorem test_decode_wrMsr : decode 0b0110000011000000001#19 [] = .instr (.wrMsr 0x01#8) := by decide
theorem test_decode_wrScr : decode 0b0100000011101011010#19 [] = .instr (.wrScr 0x5A#8) := by decide
theorem test_decode_wrNop : decode 0b0101111111100000001#19 [] = .instr (.wrNop 0xFF#8 0x01#8) := by decide
theorem test_decode_rdDll : decode 0b0010000000000000000#19 [] = .instr .rdDll := by decide
theorem test_decode_rdDlm : decode 0b0010000000100000000#19 [] = .instr .rdDlm := by decide
theorem test_decode_rdRbr : decode 0b0000000000000000000#19 [] = .instr .rdRbr := by decide
theorem test_decode_rdIer : decode 0b0000000000100000000#19 [] = .instr .rdIer := by decide
theorem test_decode_rdIir : decode 0b0010000001000000000#19 [] = .instr .rdIir := by decide
theorem test_decode_rdLcr : decode 0b0000000001100000000#19 [] = .instr .rdLcr := by decide
theorem test_decode_rdMcr : decode 0b0000000010000000000#19 [] = .instr .rdMcr := by decide
theorem test_decode_rdLsr : decode 0b0000000010100000000#19 [] = .instr .rdLsr := by decide
theorem test_decode_rdMsr : decode 0b0000000011000000000#19 [] = .instr .rdMsr := by decide
theorem test_decode_rdScr : decode 0b0010000011100000000#19 [] = .instr .rdScr := by decide
theorem test_decode_rdNop : decode 0b0000000101000000000#19 [] = .instr (.rdNop 0x0A#8) := by decide
theorem test_decode_inj :
    decode 0b1000000000000000000#19 [0x68#8, 0x69#8] = .instr (.inj [0x68#8, 0x69#8]) := by decide
theorem test_decode_reserved_kind : decode 0b1100000000000000000#19 [] = .reservedKind := by decide

/-- Every row's word is read, and a word of the reserved KIND or with a bit above `D[18]` is not. -/
theorem test_table_words_are_read :
    (∀ w ∈ tableWords, (decodeTableWord 24 w).isSome = true) ∧
    decodeTableWord 24 0x60000 = none ∧ decodeTableWord 24 0x80000 = none := by decide

/-- Every row's word, placed after reset, is the next step, which completes. -/
theorem test_table_words_run_after_reset :
    ∀ w ∈ tableWords, ends (step (State.reset.withFetchWord 24 w)) (fun _ => true) = true := by decide

/-! ### Writes -/

/-- 95 section 1.2, rows 2 and 3. -/
theorem test_divisor_latch_writes :
    ends (exec (.wrDll 0x01#8) start) (fun t => t.dll == 0x01#8 && t.ier == 0x00#8 && answers (.status .ok) t) = true ∧
    ends (exec (.wrDlm 0x02#8) start) (fun t => t.dlm == 0x02#8 && t.ier == 0x00#8) = true := by decide
/-- 95 section 1.5. -/
theorem test_ier_write_masks :
    ends (exec (.wrIer 0xA3#8) start) (fun t => t.ier == 0x03#8) = true ∧
    ends (exec (.wrIer 0xF0#8) start) (fun t => t.ier == 0x00#8 && t.iir == 0x01#8) = true := by decide
/-- 95 section 2.1: the ignored writes and an undecoded offset. -/
theorem test_ignored_writes :
    ends (exec (.wrIir 0x07#8) { start with rxq := [1#8, 2#8], lsr := 0x61#8 })
      (fun t => t.rxq == [1#8, 2#8] && t.iir == 0x01#8) = true ∧
    ends (exec (.wrLsr 0x00#8) start) (fun t => t.lsr == 0x60#8) = true ∧
    ends (exec (.wrMsr 0x00#8) start) (fun t => t.msr == 0xB0#8) = true ∧
    ends (exec (.wrNop 0x08#8 0x41#8) start) (fun t => t.trace == [.response (.status .ok)]) = true := by decide
/-- 95 sections 1.1 and 2.1: raw stores. -/
theorem test_raw_writes :
    ends (exec (.wrLcr 0x5A#8) start) (fun t => t.lcr == 0x5A#8) = true ∧
    ends (exec (.wrMcr 0xFF#8) start) (fun t => t.mcr == 0xFF#8 && t.loopMode) = true ∧
    ends (exec (.wrScr 0xFF#8) start) (fun t => t.scr == 0xFF#8) = true := by decide
/-- 95 section 2.2: outside loopback the byte is written, flushed, then THRE is signalled. -/
theorem test_thr_write_transmits :
    ends (exec (.wrThr 0x41#8) { start with ier := 0x02#8 }) (fun t => t.iir == 0x02#8 && t.rxq == [] &&
      t.trace == [.sinkWrite 0x41#8 .ok, .sinkFlush .ok, .signal .ok, .response (.status .ok)]) = true := by decide
/-- 95 section 2.2: in loopback, IER 03, only RDA is signalled. -/
theorem test_thr_write_loops_back :
    ends (exec (.wrThr 0x41#8) { looped with ier := 0x03#8 }) (fun t => t.rxq == [0x41#8] && t.lsr == 0x61#8 &&
      t.iir == 0x04#8 && t.trace == [.signal .ok, .response (.status .ok)]) = true := by decide
/-- 95 section 2.2: SinkFlush answers err(e); and R81: a dropped byte under P_FULL_WRITE_SIGNALS. -/
theorem test_thr_write_corners :
    ends (execWrThr 0x41#8 { errs with ier := 0x02#8, sinkAnswers := [.ok, .err 7] })
      (fun t => t.iir == 0x01#8 && answers (.status (.errIo 7)) t && signalCount t.trace == 0) = true ∧
    ends (exec (.wrThr 0xAA#8) { looped with
        ier := 0x01#8, rxq := bytes 64, lsr := 0x61#8, params := { fullWriteSignals := true, emptyInject := false } })
      (fun t => t.rxq == bytes 64 && t.iir == 0x04#8 && signalCount t.trace == 1) = true := by decide

/-! ### Reads -/

/-- 95 section 2.3: one entry left clears data-ready, two do not; THRE stays. -/
theorem test_data_read :
    ends (exec .rdRbr { start with rxq := [0x10#8, 0x11#8], lsr := 0x61#8, iir := 0x06#8 })
      (fun t => t.rxq == [0x11#8] && t.lsr == 0x60#8 && t.iir == 0x02#8 && answers (.rdata 0x10#8) t) = true ∧
    ends (exec .rdRbr { start with rxq := [0x10#8, 0x11#8, 0x12#8], lsr := 0x61#8, iir := 0x04#8 })
      (fun t => t.rxq == [0x11#8, 0x12#8] && t.lsr == 0x61#8 && t.iir == 0x01#8) = true := by decide
/-- 95 section 2.3, first row. -/
theorem test_data_read_empty : ends (exec .rdRbr start)
    (fun t => sameRecord start t && answers (.rdata 0x00#8) t) = true := by decide
/-- 95 section 2.4. -/
theorem test_iir_read :
    ends (exec .rdIir { start with iir := 0x06#8 }) (fun t => t.iir == 0x01#8 && answers (.rdata 0xC6#8) t) = true ∧
    ends (exec .rdIir start) (fun t => t.iir == 0x01#8 && answers (.rdata 0xC1#8) t) = true := by decide
/-- 95 section 1.6. -/
theorem test_msr_read :
    ends (exec .rdMsr { start with mcr := 0x18#8 }) (answers (.rdata 0x80#8)) = true ∧
    ends (exec .rdMsr { start with mcr := 0x13#8 }) (answers (.rdata 0x30#8)) = true ∧
    ends (exec .rdMsr { start with mcr := 0x14#8 }) (answers (.rdata 0x40#8)) = true ∧
    ends (exec .rdMsr { start with mcr := 0x11#8 }) (answers (.rdata 0x20#8)) = true ∧
    ends (exec .rdMsr start) (answers (.rdata 0xB0#8)) = true := by decide
/-- The examples of R91, R92, R94, R96, R97, R98, R100 and R101. -/
theorem test_plain_reads :
    ends (exec .rdDll { start with rxq := [0x41#8] }) (fun t => t.rxq == [0x41#8] && answers (.rdata 0x0C#8) t) = true ∧
    ends (exec .rdDlm { start with ier := 0x03#8 }) (answers (.rdata 0x00#8)) = true ∧
    ends (exec .rdIer { start with ier := 0x03#8 }) (answers (.rdata 0x03#8)) = true ∧
    ends (exec .rdLcr { start with lcr := 0x83#8 }) (answers (.rdata 0x83#8)) = true ∧
    ends (exec .rdMcr { start with mcr := 0xFF#8 }) (answers (.rdata 0xFF#8)) = true ∧
    ends (exec .rdLsr { start with lsr := 0x61#8 }) (fun t => t.lsr == 0x61#8 && answers (.rdata 0x61#8) t) = true ∧
    ends (exec .rdScr { start with scr := 0x5A#8 }) (answers (.rdata 0x5A#8)) = true ∧
    ends (exec (.rdNop 0x0A#8) { start with iir := 0x04#8 })
      (fun t => t.iir == 0x04#8 && answers (.rdata 0x00#8) t) = true := by decide

/-! ### Injection and the step -/

/-- 95 section 2.5: injection signals once, and is suppressed in loopback. -/
theorem test_inject :
    ends (exec (.inj [0x68#8, 0x69#8]) { start with ier := 0x01#8 }) (fun t => t.rxq == [0x68#8, 0x69#8] &&
      t.lsr == 0x61#8 && t.iir == 0x04#8 && signalCount t.trace == 1) = true ∧
    ends (exec (.inj [0x68#8]) { start with mcr := 0x18#8, ier := 0x01#8 })
      (fun t => t.rxq == [] && t.lsr == 0x60#8 && t.trace == [.response (.status .ok)]) = true := by decide
/-- 95 section 2.5: a failed Signal() keeps what was done, and an empty payload follows P_EMPTY_INJECT. -/
theorem test_inject_corners :
    ends (execInj [0x01#8] { errs with ier := 0x01#8, signalAnswers := [.err 7] }) (fun t => t.rxq == [0x01#8] &&
      t.lsr == 0x61#8 && t.iir == 0x04#8 && answers (.status (.errSignal 7)) t) = true ∧
    ends (exec (.inj []) { start with
        ier := 0x01#8, params := { fullWriteSignals := false, emptyInject := true } })
      (fun t => t.rxq == [] && t.lsr == 0x61#8 && t.iir == 0x04#8) = true := by decide
/-- 95 section 2.2, last row: while DLAB is set the same request is WR_DLL. -/
theorem test_step_inserts_dlab :
    ends (step { asked (wr 0#8 0x41#8) with lcr := 0x83#8 }) (fun t => t.dll == 0x41#8 && t.rxq == []) = true ∧
    ends (step (asked (wr 0#8 0x41#8))) (fun t => t.dll == 0x0C#8 && sinkBytes t.trace == [0x41#8]) = true := by decide

/-! ### Witnesses -/

theorem witness_DecodeOfEncodeIsIdentity :
    (Instr.wrNop 0x08#8 0xFF#8).wf = true ∧ (Instr.rdNop 0xFF#8).wf = true ∧ (Instr.inj []).wf = true := by decide
theorem witness_DecodeIsFirstMatchOfOpcodeTable :
    kindOf 0x60000#19 = 0b11#2 ∧ kindOf 0x7FFFF#19 = 0b11#2 ∧ kindOf 0x5FFFF#19 ≠ 0b11#2 ∧
    kindOf 0x3FFFF#19 = 0b01#2 ∧ kindOf 0x1FFFF#19 = 0b00#2 := by decide
theorem witness_EncodeRestoresDecodedFields :
    (decode 0x301FF#19 [] = .instr (.wrDlm 0xFF#8) ∧ kindOf 0x301FF#19 ≠ 0b10#2 ∧ kindOf 0x301FF#19 = 0b01#2 ∧
      (offOf 0x301FF#19).toNat ≤ 1) ∧
    (decode 0x40000#19 [0x01#8] = .instr (.inj [0x01#8]) ∧ kindOf 0x40000#19 = 0b10#2) := by decide
theorem witness_IgnoredBitsDoNotChangeDecoding :
    let d := 0x105FF#19
    let d' := 0x00500#19
    d ≠ d' ∧ kindOf d = kindOf d' ∧ offOf d = offOf d' ∧ ¬(offOf d).toNat ≤ 1 ∧ kindOf d ≠ 0b01#2 := by decide
theorem witness_NoDescriptorIsIllegal : kindOf 0x0FF00#19 = 0b00#2 ∧ kindOf 0x2FF00#19 = 0b01#2 := by decide
theorem witness_StepRunsDecodedTransaction :
    let r : Request := { width := 8, kind := 0b01#2, off := 0x00#8, data := 0x41#8, payload := [] }
    let s := start.setPending [.access r]
    s.pending = .access r :: [] ∧ r.width = 8 ∧
      decode (mkDescriptor r.kind s.lcr[7] r.off r.data) r.payload = .instr (.wrThr 0x41#8) := by decide
theorem witness_PlacedWordRunsNext :
    decodeTableWord 24 0x301FF = some (.wrDlm 0xFF#8) ∧ decodeTableWord 24 0x201FF = some (.wrIer 0xFF#8) ∧
    decodeTableWord 24 0x5FFFF = some (.inj []) ∧ decodeTableWord 24 0x60000 = none ∧
    decodeTableWord 8 0x100 = none := by decide
theorem witness_StepWithoutInputIdles : State.reset.pending = [] := by decide
theorem witness_SignalAccessorHasNoEffect :
    (asked .signalAccessor).pending = .signalAccessor :: [] := by decide
theorem witness_ReservedKindIsRefused :
    let r : Request := { width := 8, kind := 0b11#2, off := 0x00#8, data := 0x00#8, payload := [] }
    (asked (.access r)).pending = .access r :: [] ∧ r.width = 8 ∧ r.kind = 0b11#2 := by decide
theorem witness_OtherWidthsAreRefused :
    let r (n : Nat) : Request := { width := n, kind := 0b00#2, off := 0x00#8, data := 0x00#8, payload := [] }
    (asked (.access (r 9))).pending = .access (r 9) :: [] ∧ (r 0).width ≠ 8 ∧ (r 7).width ≠ 8 ∧ (r 9).width ≠ 8 ∧
      (r 16).width ≠ 8 := by decide
theorem witness_DlabSelectsDivisorLatches :
    (start.setLcr 0x80#8).lcr[7] = true ∧ (start.setLcr 0xFF#8).lcr[7] = true := by decide
theorem witness_ClearDlabSelectsDataPathAndIer :
    start.lcr[7] = false ∧ (start.setLcr 0x7F#8).lcr[7] = false := by decide
theorem witness_RawWritesStoreTheByte :
    exec (.wrLcr 0x83#8) start = .next ((start.setLcr 0x83#8).responded (.status .ok)) ∧
    exec (.wrMcr 0x10#8) start = .next ((start.setMcr 0x10#8).responded (.status .ok)) := ⟨rfl, rfl⟩
theorem witness_IgnoredWritesChangeNothing : 8 ≤ (0x08#8 : Offset).toNat ∧ 8 ≤ (0xFF#8 : Offset).toNat := by decide
theorem witness_LoopbackWriteQueuesByte :
    looped.mcr[4] = true ∧ looped.rxq.length < 64 ∧ (looped.setRxq (bytes 63)).rxq.length < 64 := by decide
theorem witness_LoopbackWriteToFullQueueDropsByte :
    let s (b : Bool) : State := { looped with
      rxq := bytes 64, params := { fullWriteSignals := b, emptyInject := false } }
    (s true).mcr[4] = true ∧ 64 ≤ (s true).rxq.length ∧ (s true).params.fullWriteSignals = true ∧
    (s false).mcr[4] = true ∧ 64 ≤ (s false).rxq.length ∧ (s false).params.fullWriteSignals = false := by decide
theorem witness_TransmitTriggersThrEmpty :
    start.mcr[4] = false ∧ sinkAnswer start (.write 0x41#8) = .ok ∧
    sinkAnswer (callSink start (.write 0x41#8)) .flush = .ok := by decide
theorem witness_TransmitStopsAtFirstSinkFailure :
    let s (l : List (Answer IoError)) : State := { start with sinkAnswers := l }
    (s [.err ioErr]).mcr[4] = false ∧ sinkAnswer (s [.err ioErr]) (.write 0x41#8) = .err ioErr ∧
    sinkAnswer (s [.ok, .err ioErr]) (.write 0x41#8) = .ok ∧
    sinkAnswer (callSink (s [.ok, .err ioErr]) (.write 0x41#8)) .flush = .err ioErr :=
  ⟨rfl, rfl, rfl, rfl⟩
theorem witness_UndecodedReadsReturnZero : 8 ≤ (0x08#8 : Offset).toNat ∧ 8 ≤ (0xFF#8 : Offset).toNat := by decide
theorem witness_ModemStatusReadMirrorsOutputs : start.mcr[4] = false ∧ looped.mcr[4] = true := by decide
theorem witness_IirReadAcknowledgesBothCauses :
    SafeState { start with iir := 0x06#8, lsr := 0x61#8, rxq := bytes 2 } ∧
    exec .rdIir start = .next ((start.setIir 0x01#8).responded (.rdata 0xC1#8)) := ⟨by decide, rfl⟩
theorem witness_ReadsNeverFailAndCallNothing :
    Instr.rdRbr.isRead = true ∧ (Instr.rdNop 0x08#8).isRead = true ∧ Instr.rdLsr ≠ .rdRbr ∧ Instr.rdLsr ≠ .rdIir := by
  decide
theorem witness_OnlyTwoReadsAreNotIdempotent :
    Instr.rdMsr.isRead = true ∧ Instr.rdMsr ≠ .rdRbr ∧ Instr.rdMsr ≠ .rdIir := by decide
theorem witness_InjectionAppendsWholePayload :
    let s : State := { start with params := { fullWriteSignals := false, emptyInject := true } }
    start.mcr[4] = false ∧ bytes 70 ≠ [] ∧ s.mcr[4] = false ∧ s.params.emptyInject = true := by decide
theorem witness_InjectionWithoutEffect :
    looped.mcr[4] = true ∧ ([] : List Byte) = [] ∧ start.params.emptyInject = false := by decide
theorem witness_LaunchIsResetOrRestoredRecord :
    RecordInv Config.params goodRecord ∧ ¬RecordInv Config.params { goodRecord with ier := 0x10#8 } ∧
    ¬RecordInv Config.params { goodRecord with msr := 0x00#8 } := by
  refine ⟨⟨by decide, by decide, by decide, by decide, fun _ => by decide, fun _ => by decide, by decide⟩, ?_, ?_⟩
  · exact fun h => absurd h.1 (by decide)
  · exact fun h => absurd h.2.2.2.2.2.2 (by decide)
theorem witness_StepKeepsInvariants :
    let s := asked (rd 5#8)
    SafeState s ∧ step s = .next ((s.setPending []).responded (.rdata 0x60#8)) := ⟨by decide, rfl⟩
theorem witness_ResponsesFollowTheCalls :
    Instr.rdIir.isRead = true ∧ (Instr.wrThr 0x41#8).isRead = false ∧ (Instr.inj []).isRead = false := by decide
theorem witness_OtherTransactionsCannotFail :
    Instr.rdIir.isRead = true ∧ (Instr.wrIer 0x01#8).isRead = false ∧ (∀ v, Instr.wrIer 0x01#8 ≠ .wrThr v) ∧
    (∀ p, Instr.wrIer 0x01#8 ≠ .inj p) ∧ looped.mcr[4] = true ∧ kindOf 0x60000#19 = 0b11#2 :=
  ⟨by decide, by decide, fun _ => nofun, fun _ => nofun, by decide, by decide⟩
/-- In loopback: Signal() fails below the cap, and at the cap under P_FULL_WRITE_SIGNALS. -/
theorem witness_ErrorsUndoNothing_loopback :
    let s (q : List Byte) : State := { looped with
      ier := 0x01#8, rxq := q, signalAnswers := [.err sigErr], params := { fullWriteSignals := true, emptyInject := false } }
    ∃ t u, exec (.wrThr 0x41#8) (s (bytes 63)) = .next t ∧ t.endedWith (.status (.errSignal sigErr)) ∧
      exec (.wrThr 0x41#8) (s (bytes 64)) = .next u ∧ u.endedWith (.status (.errSignal sigErr)) ∧
      (s []).mcr[4] = true := ⟨_, _, rfl, rfl, rfl, rfl, rfl⟩
/-- Outside loopback: Signal() fails after a data write and after an injection, SinkWrite() fails, and SinkFlush() fails. -/
theorem witness_ErrorsUndoNothing_normal :
    let s : State := { start with ier := 0x03#8, signalAnswers := [.err sigErr] }
    let s' (l : List (Answer IoError)) : State := { start with sinkAnswers := l }
    (s.mcr[4] = false ∧ ∃ t, exec (.wrThr 0x41#8) s = .next t ∧ t.endedWith (.status (.errSignal sigErr))) ∧
    (∃ t, exec (.inj (bytes 1)) s = .next t ∧ t.endedWith (.status (.errSignal sigErr))) ∧
    (∃ t, exec (.wrThr 0x41#8) (s' [.err ioErr]) = .next t ∧ t.endedWith (.status (.errIo ioErr))) ∧
    (∃ t, exec (.wrThr 0x41#8) (s' [.ok, .err ioErr]) = .next t ∧ t.endedWith (.status (.errIo ioErr))) :=
  ⟨⟨rfl, _, rfl, rfl⟩, ⟨_, rfl, rfl⟩, ⟨_, rfl, rfl⟩, _, rfl, rfl⟩
theorem witness_SignalsAreEdgeTriggeredPerCause :
    let full : State := { looped with rxq := bytes 64, params := { fullWriteSignals := true, emptyInject := true } }
    looped.mcr[4] = true ∧ (looped.setRxq (bytes 63)).rxq.length < 64 ∧
    full.mcr[4] = true ∧ full.params.fullWriteSignals = true ∧
    start.mcr[4] = false ∧ sinkAnswer start (.write 0x41#8) = .ok ∧
    sinkAnswer (callSink start (.write 0x41#8)) .flush = .ok ∧ bytes 1 ≠ [] ∧
    ends (exec (.wrThr 0x41#8) { looped with ier := 0x01#8, iir := 0x02#8 }) (fun t => t.iir == 0x06#8) = true ∧
    ends (exec (.wrThr 0x41#8) { start with ier := 0x02#8, iir := 0x02#8 }) (fun t => t.iir == 0x02#8) = true ∧
    ends (exec (.inj (bytes 1)) { start with ier := 0x01#8 }) (fun t => t.iir == 0x04#8) = true := by decide
theorem witness_OneTransactionTriggersAtMostOneCause :
    looped.mcr[4] = true ∧ start.mcr[4] = false ∧
    (∃ t, exec (.wrThr 0x41#8) looped = .next t) ∧ (∃ t, exec (.wrThr 0x41#8) start = .next t) ∧
    (∃ t, exec (.inj (bytes 1)) start = .next t) ∧ (∃ t, exec .rdRbr start = .next t) ∧
    (∀ v, Instr.rdRbr ≠ .wrThr v) ∧ (∀ p, Instr.rdRbr ≠ .inj p) :=
  ⟨rfl, rfl, ⟨_, rfl⟩, ⟨_, rfl⟩, ⟨_, rfl⟩, ⟨_, rfl⟩, fun _ => nofun, fun _ => nofun⟩
theorem witness_OnlyTwoReadsAcknowledge :
    let s : State := start.setIir 0x06#8
    s.iir[1] = true ∧ s.iir[2] = true ∧ (∃ t, exec .rdRbr s = .next t) ∧ (∃ t, exec .rdIir s = .next t) ∧
    (∃ t, exec .rdLsr s = .next t) := ⟨rfl, rfl, ⟨_, rfl⟩, ⟨_, rfl⟩, _, rfl⟩
theorem witness_FixedBitsNeverChange :
    ∃ t, exec (.wrThr 0x41#8) looped = .next t ∧ t.lsr = 0x61#8 := ⟨_, rfl, rfl⟩
theorem witness_RegistersChangeOnlyByTheirTransactions :
    ∃ t, exec (.wrLcr 0xFF#8) start = .next t ∧ (∀ v, Instr.wrLcr 0xFF#8 ≠ .wrDll v) ∧
      (∀ v, Instr.wrLcr 0xFF#8 ≠ .wrThr v) ∧ (∀ p, Instr.wrLcr 0xFF#8 ≠ .inj p) :=
  ⟨_, rfl, fun _ => nofun, fun _ => nofun, fun _ => nofun⟩
theorem witness_LoopbackWriteRespectsCap :
    let s (n : Nat) : State := looped.setRxq (bytes n)
    (s 64).mcr[4] = true ∧ (s 63).rxq.length ≤ 64 ∧ (s 64).rxq.length ≤ 64 ∧ 64 ≤ (s 64).rxq.length ∧
    ends (exec (.wrThr 0x41#8) (s 63)) (fun t => t.rxq.length == 64) = true ∧
    ends (exec (.wrThr 0x41#8) (s 64)) (fun t => t.rxq.length == 64) = true ∧
    ends (exec (.wrThr 0x41#8) (s 65)) (fun t => t.rxq.length == 65) = true := by decide
theorem witness_SinkIsOfferedDataWritesOnly :
    start.mcr[4] = false ∧ (∃ t, exec (.wrThr 0x41#8) start = .next t) ∧
    (∃ t, exec (.inj (bytes 1)) start = .next t) ∧ (∀ v, Instr.inj (bytes 1) = .wrThr v → start.mcr[4] = true) ∧
    looped.mcr[4] = true ∧ (∃ t, exec (.wrThr 0x41#8) looped = .next t) :=
  ⟨rfl, ⟨_, rfl⟩, ⟨_, rfl⟩, fun _ => nofun, rfl, _, rfl⟩
theorem witness_WrittenRegistersReadBack :
    ∃ t u, exec (.wrLcr 0x83#8) start = .next t ∧ exec (.wrMcr 0x10#8) t = .next u ∧
      (∀ w, Instr.wrMcr 0x10#8 ≠ .wrLcr w) ∧ (∃ t', exec (.wrMcr 0xA5#8) start = .next t') ∧
      (∃ t', exec (.wrScr 0xFF#8) start = .next t') ∧ (∃ t', exec (.wrDll 0x00#8) start = .next t') ∧
      (∃ t', exec (.wrDlm 0xFF#8) start = .next t') ∧ (∃ t', exec (.wrIer 0xFF#8) start = .next t') :=
  ⟨_, _, rfl, rfl, fun _ => nofun, ⟨_, rfl⟩, ⟨_, rfl⟩, ⟨_, rfl⟩, ⟨_, rfl⟩, _, rfl⟩
theorem witness_StoredOnlyBitsHaveNoEffect :
    let s : State := { start with lcr := 0xFF#8, mcr := 0xFF#8, ier := 0x0F#8 }
    s.withoutIdleBits.lcr = 0x80#8 ∧ s.withoutIdleBits.mcr = 0x1F#8 ∧ s.withoutIdleBits.ier = 0x03#8 ∧
    Instr.rdMsr ≠ .rdDll ∧ Instr.rdMsr ≠ .rdDlm ∧ Instr.rdMsr ≠ .rdIer ∧ Instr.rdMsr ≠ .rdLcr ∧
    Instr.rdMsr ≠ .rdMcr ∧ Instr.rdMsr ≠ .rdScr := by decide
theorem witness_ErrorPayloadsSteerNothing :
    1 ≤ start.signalAnswers.length ∧ 2 ≤ start.sinkAnswers.length ∧ 1 ≤ errs.signalAnswers.length ∧
    2 ≤ errs.sinkAnswers.length := by decide
theorem witness_DataReadsReturnQueueInOrder : (start.setRxq (bytes 3)).lcr[7] = false := by decide
theorem witness_LoopbackReturnsWrittenBytesInOrder :
    looped.mcr[4] = true ∧ looped.lcr[7] = false ∧ looped.rxq = [] ∧ (bytes 64).length ≤ 64 := by decide
theorem witness_UnacknowledgedThreSignalsOnce :
    let s : State := { start with ier := 0x02#8, sinkAnswers := List.replicate (2 + 2) .ok }
    s.mcr[4] = false ∧ s.lcr[7] = false ∧ s.ier[1] = true ∧ s.iir[1] = false ∧ bytes 2 ≠ [] ∧
    s.sinkAnswers = List.replicate ((bytes 2).length + (bytes 2).length) .ok := by decide

end Sys2Proof.Tests
end

section
/-! SUPPORT. Proofs about encoding and decode: when a row of the opcode table matches, read field by field; the
first-match scan (R64, R65); no descriptor is illegal (R67). -/

namespace Sys2Proof

/-! ### Masking, field by field -/

@[simp] theorem kindOf_and (d m : Descriptor) : kindOf (d &&& m) = kindOf d &&& kindOf m := BitVec.extractLsb'_and

@[simp] theorem dlOf_and (d m : Descriptor) : dlOf (d &&& m) = (dlOf d && dlOf m) := BitVec.getLsbD_and

@[simp] theorem offOf_and (d m : Descriptor) : offOf (d &&& m) = offOf d &&& offOf m := BitVec.extractLsb'_and

@[simp] theorem dataOf_and (d m : Descriptor) : dataOf (d &&& m) = dataOf d &&& dataOf m := BitVec.extractLsb'_and

/-- Two descriptors are equal when their four fields are (R60). -/
theorem descriptor_ext_iff {d e : Descriptor} :
    d = e ↔ kindOf d = kindOf e ∧ dlOf d = dlOf e ∧ offOf d = offOf e ∧ dataOf d = dataOf e := by
  constructor
  · rintro rfl
    exact ⟨rfl, rfl, rfl, rfl⟩
  · rintro ⟨hk, hl, ho, hv⟩
    rw [← mkDescriptor_fields d, hk, hl, ho, hv, mkDescriptor_fields]

/-! ### What a match says of the descriptor -/

section Match

variable {r : OpcodeRow} {d : Descriptor}

/-- A row matches a descriptor when it matches each of its fields. -/
theorem matchesWord_iff :
    r.matchesWord d = true ↔
      kindOf d &&& kindOf r.mask = kindOf r.matchBits ∧ (dlOf d && dlOf r.mask) = dlOf r.matchBits ∧
      offOf d &&& offOf r.mask = offOf r.matchBits ∧ dataOf d &&& dataOf r.mask = dataOf r.matchBits := by
  simp [OpcodeRow.matchesWord, descriptor_ext_iff]

theorem kindOf_of_matchesWord (h : r.matchesWord d = true) (hmask : kindOf r.mask = 0b11#2) :
    kindOf d = kindOf r.matchBits := by
  obtain ⟨hk, -⟩ := matchesWord_iff.1 h
  rwa [hmask, show 0b11#2 = BitVec.allOnes 2 from rfl, BitVec.and_allOnes] at hk

theorem dlOf_of_matchesWord (h : r.matchesWord d = true) (hmask : dlOf r.mask = true) :
    dlOf d = dlOf r.matchBits := by
  obtain ⟨-, hl, -⟩ := matchesWord_iff.1 h
  rwa [hmask, Bool.and_true] at hl

theorem offOf_of_matchesWord (h : r.matchesWord d = true) (hmask : offOf r.mask = 0xFF#8) :
    offOf d = offOf r.matchBits := by
  obtain ⟨-, -, ho, -⟩ := matchesWord_iff.1 h
  rwa [hmask, show 0xFF#8 = BitVec.allOnes 8 from rfl, BitVec.and_allOnes] at ho

/-- A row that looks at KIND alone matches every descriptor of its kind, and no other. -/
theorem matchesWord_kindOnly {k : Kind} (hmask : r.mask = mkDescriptor 0b11#2 false 0#8 0#8)
    (hbits : r.matchBits = mkDescriptor k false 0#8 0#8) : r.matchesWord d = true ↔ kindOf d = k := by
  have all : ∀ k' : Kind, k' &&& 0b11#2 = k' := by decide
  simp [matchesWord_iff, hmask, hbits, all]

/-- A row that does not look at DATA matches a descriptor when it matches the one with DATA 0. -/
theorem matchesWord_data_zero (hmask : dataOf r.mask = 0#8) (d : Descriptor) :
    r.matchesWord (mkDescriptor (kindOf d) (dlOf d) (offOf d) 0#8) = r.matchesWord d := by
  rw [Bool.eq_iff_iff, matchesWord_iff, matchesWord_iff]
  simp [hmask]

/-- Rows whose matches differ in a bit both look at match no descriptor in common. -/
theorem not_both_match {r' : OpcodeRow}
    (h : r.matchBits &&& (r.mask &&& r'.mask) ≠ r'.matchBits &&& (r.mask &&& r'.mask)) (d : Descriptor) :
    ¬(r.matchesWord d = true ∧ r'.matchesWord d = true) := by
  simp only [OpcodeRow.matchesWord, beq_iff_eq]
  rintro ⟨hr, hr'⟩
  apply h
  calc r.matchBits &&& (r.mask &&& r'.mask) = d &&& (r.mask &&& r'.mask) := by
        rw [← hr, BitVec.and_assoc, ← BitVec.and_assoc r.mask, BitVec.and_self]
    _ = r'.matchBits &&& (r.mask &&& r'.mask) := by
        rw [← hr', BitVec.and_assoc, BitVec.and_comm r.mask, ← BitVec.and_assoc r'.mask, BitVec.and_self]

end Match

/-! ### The rows of each KIND (R65) -/

section Rows

variable {r : OpcodeRow} {d : Descriptor}

theorem wrNopRow_matches_iff : wrNopRow.matchesWord d = true ↔ kindOf d = kindWr := matchesWord_kindOnly rfl rfl

theorem rdNopRow_matches_iff : rdNopRow.matchesWord d = true ↔ kindOf d = kindRd := matchesWord_kindOnly rfl rfl

theorem injRow_matches_iff : injRow.matchesWord d = true ↔ kindOf d = kindInj := matchesWord_kindOnly rfl rfl

theorem kindOf_of_write_match (hr : r ∈ writeRows ++ [wrNopRow]) (h : r.matchesWord d = true) :
    kindOf d = kindWr := by
  have fixed : ∀ r ∈ writeRows ++ [wrNopRow], kindOf r.mask = 0b11#2 ∧ kindOf r.matchBits = kindWr := by decide
  obtain ⟨hmask, hbits⟩ := fixed r hr
  rw [kindOf_of_matchesWord h hmask, hbits]

theorem kindOf_of_read_match (hr : r ∈ readRows ++ [rdNopRow]) (h : r.matchesWord d = true) :
    kindOf d = kindRd := by
  have fixed : ∀ r ∈ readRows ++ [rdNopRow], kindOf r.mask = 0b11#2 ∧ kindOf r.matchBits = kindRd := by decide
  obtain ⟨hmask, hbits⟩ := fixed r hr
  rw [kindOf_of_matchesWord h hmask, hbits]

/-- The rows before the NOP rows and INJ differ pairwise in a bit both look at, so no two match one descriptor. -/
theorem rows_pairwise_disjoint :
    (writeRows ++ readRows ++ [injRow]).Pairwise fun r r' =>
      ∀ d, ¬(r.matchesWord d = true ∧ r'.matchesWord d = true) := by
  have differ : (writeRows ++ readRows ++ [injRow]).Pairwise fun r r' =>
      r.matchBits &&& (r.mask &&& r'.mask) ≠ r'.matchBits &&& (r.mask &&& r'.mask) := by decide
  exact differ.imp not_both_match

/-! ### Decode by KIND, and its agreement with each row (R64) -/

theorem decode_of_kindWr (hk : kindOf d = kindWr) (p : List Byte) :
    decode d p = .instr (decodeWrite (dlOf d) (offOf d) (dataOf d)) := by
  have h := decode_write (dlOf d) (offOf d) (dataOf d) p
  rwa [← hk, mkDescriptor_fields] at h

theorem decode_of_kindRd (hk : kindOf d = kindRd) (p : List Byte) :
    decode d p = .instr (decodeRead (dlOf d) (offOf d)) := by
  have h := decode_read (dlOf d) (offOf d) (dataOf d) p
  rwa [← hk, mkDescriptor_fields] at h

theorem decode_of_kindInj (hk : kindOf d = kindInj) (p : List Byte) : decode d p = .instr (.inj p) := by
  have h := decode_inject (dlOf d) (offOf d) (dataOf d) p
  rwa [← hk, mkDescriptor_fields] at h

/-- A matching WR row builds what decode yields; the first four rows fix DL, the others ignore it. -/
theorem decode_of_write_match (hr : r ∈ writeRows) (h : r.matchesWord d = true) (p : List Byte) :
    decode d p = .instr (r.build d p) := by
  have fixed : ∀ r ∈ writeRows, offOf r.mask = 0xFF#8 := by decide
  have ho := offOf_of_matchesWord h (fixed r hr)
  have hl := dlOf_of_matchesWord h
  rw [decode_of_kindWr (kindOf_of_write_match (List.mem_append_left _ hr) h), ho]
  simp only [writeRows, List.mem_cons, List.not_mem_nil, or_false] at hr
  obtain rfl | rfl | rfl | rfl | rfl | rfl | rfl | rfl | rfl | rfl := hr
  iterate 4
    · rw [hl rfl]; rfl
  all_goals rfl

/-- A matching RD row builds what decode yields. -/
theorem decode_of_read_match (hr : r ∈ readRows) (h : r.matchesWord d = true) (p : List Byte) :
    decode d p = .instr (r.build d p) := by
  have fixed : ∀ r ∈ readRows, offOf r.mask = 0xFF#8 := by decide
  have ho := offOf_of_matchesWord h (fixed r hr)
  have hl := dlOf_of_matchesWord h
  rw [decode_of_kindRd (kindOf_of_read_match (List.mem_append_left _ hr) h), ho]
  simp only [readRows, List.mem_cons, List.not_mem_nil, or_false] at hr
  obtain rfl | rfl | rfl | rfl | rfl | rfl | rfl | rfl | rfl | rfl := hr
  iterate 4
    · rw [hl rfl]; rfl
  all_goals rfl

end Rows

/-! ### The scan (R64) -/

section Scan

variable {d : Descriptor} {rows : List OpcodeRow}

/-- Rows that ignore DATA and match each of the offsets 0..7 of a kind leave only the undecoded offsets. -/
theorem undecoded_of_no_match (hdata : ∀ r ∈ rows, dataOf r.mask = 0#8)
    (hcover : ∀ dl : Bool, ∀ n < 8, ∃ r ∈ rows,
      r.matchesWord (mkDescriptor (kindOf d) dl (BitVec.ofNat 8 n) 0#8) = true)
    (hnone : ∀ r ∈ rows, ¬r.matchesWord d = true) : 8 ≤ (offOf d).toNat := by
  by_contra hlt
  obtain ⟨r, hr, h⟩ := hcover (dlOf d) (offOf d).toNat (by omega)
  rw [BitVec.ofNat_toNat, BitVec.setWidth_eq, matchesWord_data_zero (hdata r hr)] at h
  exact hnone r hr h

theorem undecoded_of_no_write_match (hk : kindOf d = kindWr) (hnone : ∀ r ∈ writeRows, ¬r.matchesWord d = true) :
    8 ≤ (offOf d).toNat :=
  undecoded_of_no_match (by decide) (by rw [hk]; decide) hnone

theorem undecoded_of_no_read_match (hk : kindOf d = kindRd) (hnone : ∀ r ∈ readRows, ¬r.matchesWord d = true) :
    8 ≤ (offOf d).toNat :=
  undecoded_of_no_match (by decide) (by rw [hk]; decide) hnone

/-- A scan that ends at a row matching for certain yields a row that decode agrees with, when decode agrees with every
matching row and, should none match, with the last one. -/
theorem find?_append_last_sound {last : OpcodeRow} {p : List Byte}
    (hrows : ∀ r ∈ rows, r.matchesWord d = true → decode d p = .instr (r.build d p))
    (hlast : last.matchesWord d = true)
    (hnone : (∀ r ∈ rows, ¬r.matchesWord d = true) → decode d p = .instr (last.build d p)) :
    ∃ r, (rows ++ [last]).find? (fun r => r.matchesWord d) = some r ∧ decode d p = .instr (r.build d p) := by
  rw [List.find?_append]
  cases hfind : rows.find? (fun r => r.matchesWord d) with
  | none => exact ⟨last, by simp [hlast], hnone (List.find?_eq_none.1 hfind)⟩
  | some r =>
    have hmatch : r.matchesWord d = true := List.find?_some (p := fun q : OpcodeRow => q.matchesWord d) hfind
    exact ⟨r, rfl, hrows r (List.mem_of_find?_eq_some hfind) hmatch⟩

/-- The scan goes through the WR rows, then the RD rows, then INJ. -/
theorem firstRow_eq (d : Descriptor) :
    firstRow d = ((writeRows ++ [wrNopRow]).find? (fun r => r.matchesWord d)).or
      (((readRows ++ [rdNopRow]).find? (fun r => r.matchesWord d)).or ([injRow].find? (fun r => r.matchesWord d))) := by
  rw [← List.find?_append, ← List.find?_append]
  simp [firstRow, opcodeTable]

theorem find?_writeRows_eq_none (hk : kindOf d ≠ kindWr) :
    (writeRows ++ [wrNopRow]).find? (fun r => r.matchesWord d) = none :=
  List.find?_eq_none.2 fun _ hr h => hk (kindOf_of_write_match hr h)

theorem find?_readRows_eq_none (hk : kindOf d ≠ kindRd) :
    (readRows ++ [rdNopRow]).find? (fun r => r.matchesWord d) = none :=
  List.find?_eq_none.2 fun _ hr h => hk (kindOf_of_read_match hr h)

/-- Decode is the first-match scan on every descriptor of the three kinds in use. -/
theorem decode_firstRow (hk : kindOf d ≠ kindReserved) (p : List Byte) :
    ∃ r, firstRow d = some r ∧ decode d p = .instr (r.build d p) := by
  rw [firstRow_eq]
  obtain hrd | hwr | hinj | hres := kind_cases (kindOf d)
  · rw [find?_writeRows_eq_none (by rw [hrd]; decide)]
    obtain ⟨r, hfind, hdec⟩ := find?_append_last_sound (p := p) (fun _ hr h => decode_of_read_match hr h p)
      (rdNopRow_matches_iff.2 hrd) fun hnone => by
        rw [decode_of_kindRd hrd, decodeRead_undecoded (undecoded_of_no_read_match hrd hnone)]
        rfl
    exact ⟨r, by rw [hfind]; rfl, hdec⟩
  · obtain ⟨r, hfind, hdec⟩ := find?_append_last_sound (p := p) (fun _ hr h => decode_of_write_match hr h p)
      (wrNopRow_matches_iff.2 hwr) fun hnone => by
        rw [decode_of_kindWr hwr, decodeWrite_undecoded (undecoded_of_no_write_match hwr hnone)]
        rfl
    exact ⟨r, by rw [hfind]; rfl, hdec⟩
  · rw [find?_writeRows_eq_none (by rw [hinj]; decide), find?_readRows_eq_none (by rw [hinj]; decide)]
    exact ⟨injRow, by simp [injRow_matches_iff.2 hinj], decode_of_kindInj hinj p⟩
  · exact absurd hres hk

end Scan

/-- Settles O5: decode agrees with each row that matches, the NOP rows match what is left of their kind, and the other
rows differ pairwise in a bit both look at. -/
theorem decodeIsFirstMatchOfOpcodeTable : Obligations.DecodeIsFirstMatchOfOpcodeTable :=
  ⟨fun _ _ hk => if_pos hk, fun _ p hk => decode_firstRow hk p, fun _ => wrNopRow_matches_iff.2,
    fun _ => rdNopRow_matches_iff.2, rows_pairwise_disjoint⟩

/-! ### No descriptor is illegal (R67) -/

namespace Machine

variable {E_SIG E_IO : Type}

theorem returnByte_eq (b : Byte) (s : Uart.State E_SIG E_IO) : returnByte b s = .next (s.responded (.rdata b)) := rfl

theorem ignoreWrite_eq (s : Uart.State E_SIG E_IO) : ignoreWrite s = .next (s.responded (.status .ok)) := rfl

/-- Every arm of `exec` ends in `complete` or `returnByte`, and both answer a next state. -/
theorem exec_next (i : Instr) (s : State) : ∃ t, exec i s = .next t := by
  cases i <;> exact ⟨_, rfl⟩

end Machine

/-- Settles O9: RD and WR are not the reserved KIND, so the scan yields a row; every arm of `exec` answers a next state;
the ignored writes and undecoded offsets are their arms' one response. -/
theorem noDescriptorIsIllegal : Obligations.NoDescriptorIsIllegal := by
  refine ⟨fun d p hk => ?_, Machine.exec_next, fun off v s => ?_⟩
  · have hres : kindOf d ≠ kindReserved := by
      obtain h | h := hk <;> rw [h] <;> decide
    obtain ⟨r, -, hdec⟩ := decode_firstRow hres p
    exact ⟨r.build d p, hdec⟩
  · have ignored := Machine.ignoreWrite_eq s
    exact ⟨ignored, ignored, ignored, ignored, Machine.returnByte_eq 0x00#8 s⟩

end Sys2Proof
end

section
/-! SUPPORT. Proofs about the register writes: the writes that store their byte raw (R79, R80, R84, R85, R88) and the
ignored ones (R83, R86, R87, R89). -/

namespace Sys2Proof

namespace Machine

variable {E_SIG E_IO : Type}

theorem complete_ok_eq (s : Uart.State E_SIG E_IO) : complete (s, .ok) = .next (s.responded (.status .ok)) := rfl

theorem responded_endedWith (s : Uart.State E_SIG E_IO) (r : Response E_SIG E_IO) : (s.responded r).endedWith r := by
  simp [Uart.State.endedWith]

/-- The block inserts bit 7 of LCR as DL (R61). -/
theorem descriptorOf_eq (r : Request) (s : Uart.State E_SIG E_IO) :
    descriptorOf r s = mkDescriptor r.kind s.lcr[7] r.off r.data := by
  rw [descriptorOf, dlabSet_eq]

/-! ### The raw stores, one equation per transaction -/

section RawStores

variable (v : Byte) (s : State)

@[simp] theorem exec_wrDll : exec (.wrDll v) s = .next ((s.setDll v).responded (.status .ok)) := complete_ok_eq _

@[simp] theorem exec_wrDlm : exec (.wrDlm v) s = .next ((s.setDlm v).responded (.status .ok)) := complete_ok_eq _

@[simp] theorem exec_wrLcr : exec (.wrLcr v) s = .next ((s.setLcr v).responded (.status .ok)) := complete_ok_eq _

@[simp] theorem exec_wrMcr : exec (.wrMcr v) s = .next ((s.setMcr v).responded (.status .ok)) := complete_ok_eq _

@[simp] theorem exec_wrScr : exec (.wrScr v) s = .next ((s.setScr v).responded (.status .ok)) := complete_ok_eq _

end RawStores

/-- A data read answers the head of the queue, 0x00 when there is none (R93). -/
theorem exec_rdRbr_endedWith_front (s : State) : ∃ t, exec .rdRbr s = .next t ∧ t.endedWith (.rdata s.front) :=
  ⟨_, returnByte_eq s.front _, responded_endedWith _ _⟩

/-- The descriptor formed right after WR_LCR has the new bit 7 as its DL (R61, R84). -/
theorem descriptorOf_of_exec_wrLcr {v : Byte} {s t : State} (r : Request) (h : exec (.wrLcr v) s = .next t) :
    descriptorOf r t = mkDescriptor r.kind v[7] r.off r.data := by
  obtain rfl : (s.setLcr v).responded (.status .ok) = t := by simpa using h
  exact descriptorOf_eq r _

/-- Right after WR_MCR the new bit 4 is the loopback mode (R71, R85). -/
theorem loopMode_of_exec_wrMcr {v : Byte} {s t : State} (h : exec (.wrMcr v) s = .next t) : t.loopMode = v[4] := by
  obtain rfl : (s.setMcr v).responded (.status .ok) = t := by simpa using h
  exact loopMode_eq _

end Machine

open Machine

/-- Settles O20: DL 1 selects the latches at offsets 0 and 1, whose writes are the stores of their equations; the data
read answers the head of the queue, which is not DLL's to change. -/
theorem divisorLatchWritesStoreTheByte : Obligations.DivisorLatchWritesStoreTheByte := by
  intro v p s
  have hdecode (dl : Bool) (off : Offset) := decode_write dl off v p
  obtain ⟨t, ht, htb⟩ := exec_rdRbr_endedWith_front s
  obtain ⟨u, hu, hub⟩ := exec_rdRbr_endedWith_front { s with dll := v }
  exact ⟨hdecode true 0#8, exec_wrDll v s, hdecode true 1#8, exec_wrDlm v s, hdecode false 0#8, hdecode false 1#8,
    decode_read false 0#8 v p, s.front, t, u, ht, hu, htb, hub⟩

/-- Settles O21: offsets 3, 4 and 7 are decoded without regard to DL, and their writes are the stores of their
equations. -/
theorem rawWritesStoreTheByte : Obligations.RawWritesStoreTheByte := by
  intro dl v p s
  have hdecode (off : Offset) := decode_write dl off v p
  exact ⟨hdecode 3#8, exec_wrLcr v s, hdecode 4#8, exec_wrMcr v s, hdecode 7#8, exec_wrScr v s,
    fun r _ => descriptorOf_of_exec_wrLcr r, fun _ => loopMode_of_exec_wrMcr⟩

/-- Settles O23: each of those offsets decodes to a write whose meaning is `ignoreWrite`, the response alone; from 8 on
every offset is left to WR_NOP, none being reduced to a decoded one. -/
theorem ignoredWritesChangeNothing : Obligations.IgnoredWritesChangeNothing := by
  intro dl off v p s
  have hdecode (off : Offset) := decode_write dl off v p
  have ignored := ignoreWrite_eq s
  have undecoded (h : 8 ≤ off.toNat) : decode (mkDescriptor kindWr dl off v) p = .instr (.wrNop off v) := by
    rw [hdecode, decodeWrite_undecoded h]
  exact ⟨hdecode 2#8, ignored, hdecode 5#8, ignored, hdecode 6#8, ignored, undecoded, ignored⟩

end Sys2Proof
end

section
/-! SUPPORT. Proofs about the register reads: what each answers and the state it leaves (R90 to R101). -/

namespace Sys2Proof

namespace Machine

@[simp] theorem responded_snapshot {E_SIG E_IO : Type} (s : Uart.State E_SIG E_IO) (r : Response E_SIG E_IO) :
    (s.responded r).snapshot = s.snapshot := rfl

/-! ### The plain reads: the register is answered and nothing changes -/

section Reads

variable (s : State)

@[simp] theorem exec_rdDll : exec .rdDll s = .next (s.responded (.rdata s.dll)) := returnByte_eq _ _

@[simp] theorem exec_rdDlm : exec .rdDlm s = .next (s.responded (.rdata s.dlm)) := returnByte_eq _ _

@[simp] theorem exec_rdIer : exec .rdIer s = .next (s.responded (.rdata s.ier)) := returnByte_eq _ _

@[simp] theorem exec_rdLcr : exec .rdLcr s = .next (s.responded (.rdata s.lcr)) := returnByte_eq _ _

@[simp] theorem exec_rdMcr : exec .rdMcr s = .next (s.responded (.rdata s.mcr)) := returnByte_eq _ _

@[simp] theorem exec_rdLsr : exec .rdLsr s = .next (s.responded (.rdata s.lsr)) := returnByte_eq _ _

@[simp] theorem exec_rdMsr : exec .rdMsr s = .next (s.responded (.rdata (msrValue s))) := returnByte_eq _ _

@[simp] theorem exec_rdScr : exec .rdScr s = .next (s.responded (.rdata s.scr)) := returnByte_eq _ _

@[simp] theorem exec_rdNop (off : Offset) : exec (.rdNop off) s = .next (s.responded (.rdata 0x00#8)) :=
  returnByte_eq _ _

/-! ### The two reads that change the block -/

@[simp] theorem exec_rdIir :
    exec .rdIir s = .next ((s.setIir iirNone).responded (.rdata (s.iir ||| fifoEnabledBits))) := returnByte_eq _ _

/-- With no cause outstanding there is nothing to acknowledge (R95). -/
theorem exec_rdIir_of_none {s : State} (h : s.iir = iirNone) :
    exec .rdIir s = .next (s.responded (.rdata 0xC1#8)) := by
  have hset : s.setIir iirNone = s := by rw [← h]; rfl
  rw [exec_rdIir, hset, h]
  rfl

/-- RD_RBR writes IIR, RXQ and LSR, and compares the length that is left after the pop (R93, C4). -/
@[simp] theorem exec_rdRbr :
    exec .rdRbr s = .next ((((s.setIir (withoutCause .rda s.iir)).setRxq s.rxq.tail).setLsr
      (if s.rxq.length - 1 ≤ 1 then withoutDr s.lsr else s.lsr)).responded (.rdata s.front)) := by
  have hdrain := clearDrIfDrained_eq (delCause .rda s).dequeue
  rw [dequeue_rxq, List.length_tail] at hdrain
  calc exec .rdRbr s = returnByte s.front (clearDrIfDrained (delCause .rda s).dequeue) := rfl
    _ = _ := by rw [hdrain]; rfl

end Reads

/-- Every read but the data read and the IIR read only answers a byte (R51, R90). -/
theorem exec_plainRead {i : Instr} (hread : i.isRead = true) (hrbr : i ≠ .rdRbr) (hiir : i ≠ .rdIir) (s : State) :
    ∃ b, exec i s = .next (s.responded (.rdata b)) := by
  cases i with
  | rdDll => exact ⟨_, exec_rdDll s⟩
  | rdDlm => exact ⟨_, exec_rdDlm s⟩
  | rdIer => exact ⟨_, exec_rdIer s⟩
  | rdLcr => exact ⟨_, exec_rdLcr s⟩
  | rdMcr => exact ⟨_, exec_rdMcr s⟩
  | rdLsr => exact ⟨_, exec_rdLsr s⟩
  | rdMsr => exact ⟨_, exec_rdMsr s⟩
  | rdScr => exact ⟨_, exec_rdScr s⟩
  | rdNop off => exact ⟨_, exec_rdNop s off⟩
  | rdRbr => exact absurd rfl hrbr
  | rdIir => exact absurd rfl hiir
  | wrDll | wrDlm | wrThr | wrIer | wrIir | wrLcr | wrMcr | wrLsr | wrMsr | wrScr | wrNop | inj => cases hread

/-- The invariant on the stored causes (R40) as the IIR read shows it. -/
theorem iirReadback_of_safeState {s : State} (h : SafeState s) :
    s.iir ||| 0xC0#8 = 0xC1#8 ∨ s.iir ||| 0xC0#8 = 0xC2#8 ∨ s.iir ||| 0xC0#8 = 0xC4#8 ∨
      s.iir ||| 0xC0#8 = 0xC6#8 := by
  have readback : ∀ b : Byte, (b = 0x01#8 ∨ b = 0x02#8 ∨ b = 0x04#8 ∨ b = 0x06#8) →
      b ||| 0xC0#8 = 0xC1#8 ∨ b ||| 0xC0#8 = 0xC2#8 ∨ b ||| 0xC0#8 = 0xC4#8 ∨ b ||| 0xC0#8 = 0xC6#8 := by decide
  obtain ⟨-, -, hiir, -⟩ := h
  exact readback s.iir hiir

end Machine

open Machine

/-- Settles O32: the equation of RD_RBR in the numerals of R25, for an empty and for a nonempty queue. -/
theorem dataReadPopsAndAcknowledges : Obligations.DataReadPopsAndAcknowledges := by
  intro x p s
  refine ⟨decode_read false 0#8 x p, ?_⟩
  rw [exec_rdRbr, Uart.State.front]
  cases s.rxq with
  | nil => rfl
  | cons b q => rfl

/-- Settles O33: the data read and the IIR read by their equations, every other read by `exec_plainRead`. -/
theorem readsNeverFailAndCallNothing : Obligations.ReadsNeverFailAndCallNothing := by
  intro i s hread
  by_cases hrbr : i = .rdRbr
  · subst hrbr
    exact ⟨_, _, exec_rdRbr s, rfl, fun hne _ => absurd rfl hne⟩
  by_cases hiir : i = .rdIir
  · subst hiir
    exact ⟨_, _, exec_rdIir s, rfl, fun _ hne => absurd rfl hne⟩
  obtain ⟨b, hb⟩ := exec_plainRead hread hrbr hiir s
  exact ⟨b, _, hb, rfl, fun _ _ => responded_snapshot s _⟩

/-- Settles O28: the DL of the descriptor matters at offsets 0 and 1 only, DATA nowhere; the reads are their
equations. -/
theorem plainReadsReturnTheRegister : Obligations.PlainReadsReturnTheRegister := by
  intro dl x p s
  have hdecode (dl : Bool) (off : Offset) := decode_read dl off x p
  exact ⟨hdecode true 0#8, exec_rdDll s, hdecode true 1#8, exec_rdDlm s, hdecode false 1#8, exec_rdIer s,
    hdecode dl 3#8, exec_rdLcr s, hdecode dl 4#8, exec_rdMcr s, hdecode dl 5#8, exec_rdLsr s,
    hdecode dl 7#8, exec_rdScr s⟩

/-- Settles O29: no offset from 8 on is reduced to a decoded one, and RD_NOP is its one response. -/
theorem undecodedReadsReturnZero : Obligations.UndecodedReadsReturnZero := by
  intro dl off x p s
  refine ⟨fun h => ?_, exec_rdNop s off⟩
  calc decode (mkDescriptor kindRd dl off x) p = .instr (decodeRead dl off) := decode_read dl off x p
    _ = .instr (.rdNop off) := by rw [decodeRead_undecoded h]

/-- Settles O31: the first read leaves IIR at NONE alone, which a second one reads and leaves as it is. -/
theorem iirReadAcknowledgesBothCauses : Obligations.IirReadAcknowledgesBothCauses := by
  intro dl x p s
  refine ⟨decode_read dl 2#8 x p, exec_rdIir s, fun t ht => ?_, iirReadback_of_safeState⟩
  obtain rfl : (s.setIir iirNone).responded (.rdata (s.iir ||| fifoEnabledBits)) = t := by simpa using ht
  exact exec_rdIir_of_none rfl

end Sys2Proof
end

section
/-! SUPPORT. Proofs about errors and signals: which transactions can fail (R106), what a failed call leaves behind (R107),
and when a triggering event makes a Signal() (R111). -/

namespace Sys2Proof

namespace Machine

variable {E_SIG E_IO : Type}

/-! ### The response that ends a transaction -/

theorem complete_eq (p : Uart.State E_SIG E_IO × Resp E_SIG E_IO) :
    complete p = .next (p.1.responded (.status p.2)) := rfl

/-- A transaction completed from `p` that was seen to end with the status `r` was given `r` by its steps. -/
theorem complete_endedWith {p : Uart.State E_SIG E_IO × Resp E_SIG E_IO} {t : Uart.State E_SIG E_IO}
    {r : Resp E_SIG E_IO} (h : complete p = .next t) (hend : t.endedWith (.status r)) :
    p.2 = r ∧ t = p.1.responded (.status r) := by
  obtain rfl : p.1.responded (.status p.2) = t := by simpa [complete_eq] using h
  obtain rfl : p.2 = r := by simpa [Uart.State.endedWith] using hend
  exact ⟨rfl, rfl⟩

/-! ### The transactions that call a capability, by mode (R81, R102) -/

section Modes

variable {s : State}

theorem exec_wrThr_loopback (hloop : s.mcr[4] = true) (v : Byte) :
    exec (.wrThr v) s = complete (loopbackWrite v s) := by
  rw [← loopMode_eq] at hloop
  exact congrArg complete (if_pos hloop)

theorem exec_wrThr_normal (hnormal : s.mcr[4] = false) (v : Byte) :
    exec (.wrThr v) s = complete (transmit v s) := by
  rw [← loopMode_eq] at hnormal
  exact congrArg complete (if_neg (by simp [hnormal]))

theorem exec_inj_loopback (hloop : s.mcr[4] = true) (p : List Byte) :
    exec (.inj p) s = complete (s, .ok) := by
  rw [← loopMode_eq] at hloop
  exact congrArg complete (if_pos hloop)

theorem exec_inj_normal (hnormal : s.mcr[4] = false) (p : List Byte) :
    exec (.inj p) s = complete (injectBytes p s) := by
  rw [← loopMode_eq] at hnormal
  exact congrArg complete (if_neg (by simp [hnormal]))

end Modes

/-! ### The writes that cannot fail (R106) -/

@[simp] theorem exec_wrIer (v : Byte) (s : State) :
    exec (.wrIer v) s = .next ((s.setIer (v &&& ierValid)).responded (.status .ok)) := complete_ok_eq _

/-- Every write but the data write stores at most a register, calls nothing and answers OK (R106). -/
theorem exec_otherWrite {i : Instr} (hwrite : i.isRead = false) (hthr : ∀ v, i ≠ .wrThr v) (hinj : ∀ p, i ≠ .inj p)
    (s : State) : ∃ q : State, q.trace = s.trace ∧ exec i s = .next (q.responded (.status .ok)) := by
  cases i with
  | wrDll v => exact ⟨_, s.setDll_trace v, exec_wrDll v s⟩
  | wrDlm v => exact ⟨_, s.setDlm_trace v, exec_wrDlm v s⟩
  | wrIer v => exact ⟨_, s.setIer_trace _, exec_wrIer v s⟩
  | wrLcr v => exact ⟨_, s.setLcr_trace v, exec_wrLcr v s⟩
  | wrMcr v => exact ⟨_, s.setMcr_trace v, exec_wrMcr v s⟩
  | wrScr v => exact ⟨_, s.setScr_trace v, exec_wrScr v s⟩
  | wrIir | wrLsr | wrMsr | wrNop => exact ⟨s, rfl, ignoreWrite_eq s⟩
  | wrThr v => exact absurd rfl (hthr v)
  | inj p => exact absurd rfl (hinj p)
  | rdDll | rdDlm | rdRbr | rdIer | rdIir | rdLcr | rdMcr | rdLsr | rdMsr | rdScr | rdNop => cases hwrite

/-! ### What a trigger leaves when Signal() fails (R107) -/

@[simp] theorem trigger_lsr (c : Cause) (s : Uart.State E_SIG E_IO) : (trigger c s).1.lsr = s.lsr := by
  obtain ⟨_, _, _, _, h⟩ := trigger_frame c s
  rw [h]

@[simp] theorem trigger_rxq (c : Cause) (s : Uart.State E_SIG E_IO) : (trigger c s).1.rxq = s.rxq := by
  obtain ⟨_, _, _, _, h⟩ := trigger_frame c s
  rw [h]

theorem respOfSignal_eq_errSignal {a : Answer E_SIG} {e : E_SIG}
    (h : (respOfSignal a : Resp E_SIG E_IO) = .errSignal e) : a = .err e := by
  cases a with
  | ok => cases h
  | err e' =>
    cases h
    rfl

theorem outstandingIn_addCause (c : Cause) (s : Uart.State E_SIG E_IO) : outstandingIn c (addCause c s).iir = true := by
  obtain ⟨hmark, -⟩ := withCause_spec c c s.iir
  exact hmark.trans (by simp)

/-- A trigger fails only at its Signal(), which comes after the mark and is its only call. -/
theorem trigger_errSignal {c : Cause} {s : Uart.State E_SIG E_IO} {e : E_SIG} (h : (trigger c s).2 = .errSignal e) :
    outstandingIn c (trigger c s).1.iir = true ∧ (trigger c s).1.trace = s.trace ++ [.signal (.err e)] := by
  obtain ⟨-, heq⟩ | ⟨-, heq⟩ := trigger_cases c s
  · rw [heq] at h
    cases h
  · rw [heq] at h ⊢
    have hanswer : signalAnswer s = .err e := respOfSignal_eq_errSignal h
    refine ⟨outstandingIn_addCause c s, ?_⟩
    rw [← hanswer]
    rfl

/-- An announcement that fails has marked received-data and set data-ready, and leaves the queue to its caller. -/
theorem announceData_errSignal {s : Uart.State E_SIG E_IO} {e : E_SIG} (h : (announceData s).2 = .errSignal e) :
    (announceData s).1.iir[2] = true ∧ (announceData s).1.lsr[0] = true ∧ (announceData s).1.rxq = s.rxq ∧
      (announceData s).1.trace = s.trace ++ [.signal (.err e)] := by
  have hready : ∀ b : Byte, (withDr b)[0] = true := by decide
  rw [announceData_eq] at h ⊢
  obtain ⟨hmark, htrace⟩ := trigger_errSignal h
  rw [iirRda_eq] at hmark
  exact ⟨hmark, by simpa using hready s.lsr, by simp, by simpa using htrace⟩

/-- In loopback the byte was queued if there was room, before the Signal() that failed. -/
theorem loopbackWrite_errSignal {v : Byte} {s : Uart.State E_SIG E_IO} {e : E_SIG}
    (h : (loopbackWrite v s).2 = .errSignal e) :
    (loopbackWrite v s).1.iir[2] = true ∧ (loopbackWrite v s).1.lsr[0] = true ∧
      (loopbackWrite v s).1.rxq = (if s.rxq.length < 64 then s.rxq ++ [v] else s.rxq) ∧
      (loopbackWrite v s).1.trace = s.trace ++ [.signal (.err e)] := by
  obtain ⟨hroom, heq⟩ | ⟨hfull, -, heq⟩ | ⟨-, -, heq⟩ := loopbackWrite_cases v s <;> rw [heq] at h ⊢
  · rw [if_pos hroom]
    exact announceData_errSignal h
  · rw [if_neg (by omega)]
    exact announceData_errSignal h
  · cases h

/-- An injection whose Signal() failed has queued its whole payload. -/
theorem injectBytes_errSignal {p : List Byte} {s : Uart.State E_SIG E_IO} {e : E_SIG}
    (h : (injectBytes p s).2 = .errSignal e) :
    (injectBytes p s).1.iir[2] = true ∧ (injectBytes p s).1.lsr[0] = true ∧
      (injectBytes p s).1.rxq = s.rxq ++ p ∧ (injectBytes p s).1.trace = s.trace ++ [.signal (.err e)] := by
  obtain ⟨-, -, heq⟩ | ⟨-, heq⟩ := injectBytes_cases p s <;> rw [heq] at h ⊢
  · cases h
  · exact announceData_errSignal h

/-! ### What a transmission leaves when a call fails (R107, R114) -/

/-- A transmission's Signal() comes after both sink calls were answered ok. -/
theorem transmit_errSignal {v : Byte} {s : Uart.State E_SIG E_IO} {e : E_SIG} (h : (transmit v s).2 = .errSignal e) :
    (transmit v s).1.iir[1] = true ∧
      (transmit v s).1.trace = s.trace ++ [.sinkWrite v .ok, .sinkFlush .ok, .signal (.err e)] := by
  obtain ⟨_, -, heq⟩ | ⟨_, -, -, heq⟩ | ⟨hwrite, hflush, heq⟩ := transmit_cases v s <;> rw [heq] at h ⊢
  · cases h
  · cases h
  · obtain ⟨hmark, htrace⟩ := trigger_errSignal h
    rw [iirThre_eq] at hmark
    exact ⟨hmark, by simpa [sinkEvent, hwrite, hflush] using htrace⟩

theorem callSink_snapshot (s : Uart.State E_SIG E_IO) (c : SinkCall) : (callSink s c).snapshot = s.snapshot := rfl

/-- A failing sink call ends the transmission before anything else is done. -/
theorem transmit_errIo {v : Byte} {s : Uart.State E_SIG E_IO} {e : E_IO} (h : (transmit v s).2 = .errIo e) :
    (transmit v s).1.snapshot = s.snapshot ∧
      ((transmit v s).1.trace = s.trace ++ [.sinkWrite v (.err e)] ∨
        (transmit v s).1.trace = s.trace ++ [.sinkWrite v .ok, .sinkFlush (.err e)]) := by
  obtain ⟨e', hwrite, heq⟩ | ⟨e', hwrite, hflush, heq⟩ | ⟨-, -, heq⟩ := transmit_cases v s <;> rw [heq] at h ⊢
  · cases h
    exact ⟨callSink_snapshot s _, .inl (by simp [sinkEvent, hwrite])⟩
  · cases h
    refine ⟨?_, .inr (by simp [sinkEvent, hwrite, hflush])⟩
    rw [callSink_snapshot, callSink_snapshot]
  · exact absurd h (trigger_resp _ _ e)

/-- In loopback the Output Sink is not called, so it cannot fail. -/
theorem loopbackWrite_resp (v : Byte) (s : Uart.State E_SIG E_IO) (e : E_IO) : (loopbackWrite v s).2 ≠ .errIo e := by
  obtain ⟨-, heq⟩ | ⟨-, -, heq⟩ | ⟨-, -, heq⟩ := loopbackWrite_cases v s <;> rw [heq]
  · exact trigger_resp _ _ e
  · exact trigger_resp _ _ e
  · simp

/-! ### The failed transactions (R107) -/

section Failed

variable {v : Byte} {p : List Byte} {s t : State}

theorem wrThr_loopback_errSignal {e : SigError} (hloop : s.mcr[4] = true) (h : exec (.wrThr v) s = .next t)
    (hend : t.endedWith (.status (.errSignal e))) :
    t.iir[2] = true ∧ t.lsr[0] = true ∧ t.rxq = (if s.rxq.length < 64 then s.rxq ++ [v] else s.rxq) ∧
      t.trace = s.trace ++ [.signal (.err e), .response (.status (.errSignal e))] := by
  rw [exec_wrThr_loopback hloop] at h
  obtain ⟨hresp, rfl⟩ := complete_endedWith h hend
  obtain ⟨hmark, hready, hqueue, htrace⟩ := loopbackWrite_errSignal hresp
  exact ⟨hmark, hready, hqueue, by simp [htrace]⟩

theorem wrThr_normal_errSignal {e : SigError} (hnormal : s.mcr[4] = false) (h : exec (.wrThr v) s = .next t)
    (hend : t.endedWith (.status (.errSignal e))) :
    t.iir[1] = true ∧ t.trace =
      s.trace ++ [.sinkWrite v .ok, .sinkFlush .ok, .signal (.err e), .response (.status (.errSignal e))] := by
  rw [exec_wrThr_normal hnormal] at h
  obtain ⟨hresp, rfl⟩ := complete_endedWith h hend
  obtain ⟨hmark, htrace⟩ := transmit_errSignal hresp
  exact ⟨hmark, by simp [htrace]⟩

theorem inj_errSignal {e : SigError} (h : exec (.inj p) s = .next t) (hend : t.endedWith (.status (.errSignal e))) :
    t.iir[2] = true ∧ t.lsr[0] = true ∧ t.rxq = s.rxq ++ p ∧
      t.trace = s.trace ++ [.signal (.err e), .response (.status (.errSignal e))] := by
  cases hmode : s.mcr[4] with
  | true =>
    rw [exec_inj_loopback hmode] at h
    obtain ⟨hresp, -⟩ := complete_endedWith h hend
    cases hresp
  | false =>
    rw [exec_inj_normal hmode] at h
    obtain ⟨hresp, rfl⟩ := complete_endedWith h hend
    obtain ⟨hmark, hready, hqueue, htrace⟩ := injectBytes_errSignal hresp
    exact ⟨hmark, hready, hqueue, by simp [htrace]⟩

theorem wrThr_errIo {e : IoError} (h : exec (.wrThr v) s = .next t) (hend : t.endedWith (.status (.errIo e))) :
    t.snapshot = s.snapshot ∧
      (t.trace = s.trace ++ [.sinkWrite v (.err e), .response (.status (.errIo e))] ∨
        t.trace = s.trace ++ [.sinkWrite v .ok, .sinkFlush (.err e), .response (.status (.errIo e))]) := by
  cases hmode : s.mcr[4] with
  | true =>
    rw [exec_wrThr_loopback hmode] at h
    obtain ⟨hresp, -⟩ := complete_endedWith h hend
    exact absurd hresp (loopbackWrite_resp v s e)
  | false =>
    rw [exec_wrThr_normal hmode] at h
    obtain ⟨hresp, rfl⟩ := complete_endedWith h hend
    obtain ⟨hkept, htrace⟩ := transmit_errIo hresp
    exact ⟨hkept, htrace.imp (fun h => by simp [h]) (fun h => by simp [h])⟩

end Failed

/-! ### How many Signal() calls are seen (R111) -/

theorem signalCount_responded (s : Uart.State E_SIG E_IO) (r : Response E_SIG E_IO) :
    signalCount (s.responded r).trace = signalCount s.trace := by
  simp [signalCount_append, signalCount]

theorem signalCount_callSink (s : Uart.State E_SIG E_IO) (c : SinkCall) :
    signalCount (callSink s c).trace = signalCount s.trace := by
  rw [callSink_trace, signalCount_append]
  cases c <;> rfl

theorem signalCount_callSignal (s : Uart.State E_SIG E_IO) :
    signalCount (callSignal s).trace = signalCount s.trace + 1 := by
  rw [callSignal_trace, signalCount_append]
  rfl

/-- A transaction that answers from `p` is seen to make the calls that led to `p`. -/
theorem signalCount_of_complete {p : Uart.State E_SIG E_IO × Resp E_SIG E_IO} {t : Uart.State E_SIG E_IO}
    (h : complete p = .next t) : signalCount t.trace = signalCount p.1.trace := by
  obtain rfl : p.1.responded (.status p.2) = t := by simpa [complete_eq] using h
  exact signalCount_responded p.1 _

theorem signalCount_trigger (c : Cause) (s : Uart.State E_SIG E_IO) :
    signalCount (trigger c s).1.trace = signalCount s.trace + (if fires c s = true then 1 else 0) := by
  obtain ⟨hfires, heq⟩ | ⟨hfires, heq⟩ := trigger_cases c s <;> rw [heq, hfires]
  · rfl
  · exact signalCount_callSignal (addCause c s)

theorem fires_rda_iff (s : Uart.State E_SIG E_IO) :
    fires .rda s = true ↔ s.ier[0] = true ∧ s.iir[2] = false := by
  simp [fires, ierRda_eq, iirRda_eq]

theorem fires_thre_iff (s : Uart.State E_SIG E_IO) :
    fires .thre s = true ↔ s.ier[1] = true ∧ s.iir[1] = false := by
  simp [fires, ierThre_eq, iirThre_eq]

/-- The data-ready set of an announcement changes neither register its trigger looks at. -/
theorem signalCount_announceData (s : Uart.State E_SIG E_IO) :
    signalCount (announceData s).1.trace =
      signalCount s.trace + (if s.ier[0] = true ∧ s.iir[2] = false then 1 else 0) := by
  simp [announceData_eq, signalCount_trigger, fires_rda_iff]

theorem signalCount_transmit {v : Byte} {s : Uart.State E_SIG E_IO} (hwrite : sinkAnswer s (.write v) = .ok)
    (hflush : sinkAnswer (callSink s (.write v)) .flush = .ok) :
    signalCount (transmit v s).1.trace =
      signalCount s.trace + (if s.ier[1] = true ∧ s.iir[1] = false then 1 else 0) := by
  have heq : transmit v s = trigger .thre (callSink (callSink s (.write v)) .flush) := by
    simp [transmit, hwrite, hflush]
  rw [heq, signalCount_trigger, signalCount_callSink, signalCount_callSink]
  simp [fires_thre_iff]

/-- A loopback data write that does not drop its byte in silence announces data once. -/
theorem signalCount_loopbackWrite {s : Uart.State E_SIG E_IO}
    (hannounce : s.rxq.length < 64 ∨ s.params.fullWriteSignals = true) (v : Byte) :
    signalCount (loopbackWrite v s).1.trace =
      signalCount s.trace + (if s.ier[0] = true ∧ s.iir[2] = false then 1 else 0) := by
  obtain ⟨-, heq⟩ | ⟨-, -, heq⟩ | ⟨hfull, hsilent, heq⟩ := loopbackWrite_cases v s
  · rw [heq]
    exact signalCount_announceData (s.enqueue [v])
  · rw [heq]
    exact signalCount_announceData s
  · obtain hroom | hsignals := hannounce
    · omega
    · simp [hsilent] at hsignals

theorem signalCount_injectBytes {p : List Byte} {s : Uart.State E_SIG E_IO}
    (hannounce : p ≠ [] ∨ s.params.emptyInject = true) :
    signalCount (injectBytes p s).1.trace =
      signalCount s.trace + (if s.ier[0] = true ∧ s.iir[2] = false then 1 else 0) := by
  obtain ⟨hempty, hsilent, -⟩ | ⟨-, heq⟩ := injectBytes_cases p s
  · simp [hempty, hsilent] at hannounce
  · rw [heq]
    exact signalCount_announceData (s.enqueue p)

end Machine

open Machine

/-- Settles O42: a read is seen to answer its byte alone (O33); a write other than the data write completes with OK; an
injection in loopback completes from the state as it is. -/
theorem otherTransactionsCannotFail : Obligations.OtherTransactionsCannotFail := by
  intro i s
  refine ⟨fun hread => ?_, fun hwrite hthr hinj => ?_, ?_, fun _ _ hk => if_pos hk⟩
  · obtain ⟨b, t, hexec, ht, -⟩ := readsNeverFailAndCallNothing i s hread
    exact ⟨b, t, hexec, congrArg Uart.State.trace ht⟩
  · obtain ⟨q, hq, hexec⟩ := exec_otherWrite hwrite hthr hinj s
    exact ⟨_, hexec, by simp [hq]⟩
  · rintro p rfl hloop
    exact ⟨_, exec_inj_loopback hloop p, rfl⟩

/-- Settles O43: the trigger marks its cause before Signal() and is the last thing a transaction does, and the sink calls
of a data write come before any change of a register. -/
theorem errorsUndoNothing : Obligations.ErrorsUndoNothing :=
  ⟨fun _ _ _ _ h hend =>
      ⟨fun hloop => wrThr_loopback_errSignal hloop h hend, fun hnormal => wrThr_normal_errSignal hnormal h hend⟩,
    fun _ _ _ _ => inj_errSignal, fun _ _ _ _ => wrThr_errIo⟩

/-- Settles O44: each of the three events comes down to one trigger, which makes a Signal() exactly when it fires, and
what is done before it touches neither IER nor IIR. -/
theorem signalsAreEdgeTriggeredPerCause : Obligations.SignalsAreEdgeTriggeredPerCause := by
  refine ⟨fun v s t hloop hannounce h => ?_, fun v s t hnormal hwrite hflush h => ?_,
    fun p s t hnormal hannounce h => ?_⟩
  · rw [exec_wrThr_loopback hloop] at h
    rw [signalCount_of_complete h, signalCount_loopbackWrite hannounce]
  · rw [exec_wrThr_normal hnormal] at h
    rw [signalCount_of_complete h, signalCount_transmit hwrite hflush]
  · rw [exec_inj_normal hnormal] at h
    rw [signalCount_of_complete h, signalCount_injectBytes hannounce]

end Sys2Proof
end

section
/-! SUPPORT. Proofs about encode and decode as inverses: the round trip, what decode yields, and the bits it ignores
(R60 to R65). -/

namespace Sys2Proof

/-- Each transaction's fields are read back by its own row; the NOP rows by their undecoded offset. -/
theorem decode_encode {i : Instr} (hwf : i.wf = true) : decode (encode i).1 (encode i).2 = .instr i := by
  cases i with
  | wrNop off v =>
    have h : 8 ≤ off.toNat := by simpa [Instr.wf] using hwf
    rw [encode, decode_write, decodeWrite_undecoded h]
  | rdNop off =>
    have h : 8 ≤ off.toNat := by simpa [Instr.wf] using hwf
    rw [encode, decode_read, decodeRead_undecoded h]
  | inj p => exact decode_inject _ _ _ p
  | wrDll v | wrDlm v | wrThr v | wrIer v | wrIir v | wrLcr v | wrMcr v | wrLsr v | wrMsr v | wrScr v =>
    exact decode_write _ _ v []
  | rdDll | rdDlm | rdRbr | rdIer | rdIir | rdLcr | rdMcr | rdLsr | rdMsr | rdScr => exact decode_read _ _ _ []

/-! ### What decode yields -/

section Yield

variable (dl : Bool) (off : Offset) (v : Byte)

/-- The encoding of a decoded write has its fields, but for a DL at an offset where it does not count. -/
theorem encode_decodeWrite :
    encode (decodeWrite dl off v) = (mkDescriptor kindWr (dl && decide (off.toNat ≤ 1)) off v, []) := by
  obtain rfl | rfl | rfl | rfl | rfl | rfl | rfl | rfl | h := offset_cases off
  iterate 8
    · cases dl <;> rfl
  rw [decodeWrite_undecoded h, decide_eq_false (by omega), Bool.and_false, encode]

/-- The encoding of a decoded read has its fields, but for a DL where it does not count and for DATA. -/
theorem encode_decodeRead :
    encode (decodeRead dl off) = (mkDescriptor kindRd (dl && decide (off.toNat ≤ 1)) off 0#8, []) := by
  obtain rfl | rfl | rfl | rfl | rfl | rfl | rfl | rfl | h := offset_cases off
  iterate 8
    · cases dl <;> rfl
  rw [decodeRead_undecoded h, decide_eq_false (by omega), Bool.and_false, encode]

theorem wf_decodeWrite : (decodeWrite dl off v).wf = true := by
  obtain rfl | rfl | rfl | rfl | rfl | rfl | rfl | rfl | h := offset_cases off
  iterate 8
    · cases dl <;> rfl
  simpa [decodeWrite_undecoded h, Instr.wf] using h

theorem wf_decodeRead : (decodeRead dl off).wf = true := by
  obtain rfl | rfl | rfl | rfl | rfl | rfl | rfl | rfl | h := offset_cases off
  iterate 8
    · cases dl <;> rfl
  simpa [decodeRead_undecoded h, Instr.wf] using h

end Yield

/-! ### DL counts at offsets 0 and 1 only (R61) -/

theorem not_latch_offset {off : Offset} (h : ¬off.toNat ≤ 1) : off ≠ 0#8 ∧ off ≠ 1#8 := by
  constructor <;> rintro rfl <;> exact h (by decide)

theorem decodeWrite_congr_dl {dl dl' : Bool} {off : Offset} (h : off.toNat ≤ 1 → dl = dl') (v : Byte) :
    decodeWrite dl off v = decodeWrite dl' off v := by
  by_cases hlow : off.toNat ≤ 1
  · rw [h hlow]
  · obtain ⟨h0, h1⟩ := not_latch_offset hlow
    simp only [decodeWrite, if_neg h0, if_neg h1]

theorem decodeRead_congr_dl {dl dl' : Bool} {off : Offset} (h : off.toNat ≤ 1 → dl = dl') :
    decodeRead dl off = decodeRead dl' off := by
  by_cases hlow : off.toNat ≤ 1
  · rw [h hlow]
  · obtain ⟨h0, h1⟩ := not_latch_offset hlow
    simp only [decodeRead, if_neg h0, if_neg h1]

/-- Settles O4: every row is decoded from its own fields, the NOP rows because a well-formed offset is undecoded. -/
theorem decodeOfEncodeIsIdentity : Obligations.DecodeOfEncodeIsIdentity := fun _ => decode_encode

/-- Settles O6: by KIND; a read or a write re-encodes to its own fields with DL kept at offsets 0 and 1. -/
theorem encodeRestoresDecodedFields : Obligations.EncodeRestoresDecodedFields := by
  intro d p i hdec
  obtain hk | hk | hk | hk := kind_cases (kindOf d)
  · rw [decode_of_kindRd hk] at hdec
    cases hdec
    rw [encode_decodeRead, hk]
    refine ⟨wf_decodeRead _ _, by simp, by simp, fun _ hlow => by simp [hlow], ?_, ?_⟩ <;>
      exact fun h => absurd h (by decide)
  · rw [decode_of_kindWr hk] at hdec
    cases hdec
    rw [encode_decodeWrite, hk]
    exact ⟨wf_decodeWrite _ _ _, by simp, by simp, fun _ hlow => by simp [hlow], by simp,
      fun h => absurd h (by decide)⟩
  · rw [decode_of_kindInj hk] at hdec
    cases hdec
    rw [hk]
    exact ⟨rfl, kindOf_mkDescriptor _ _ _ _, fun h => absurd rfl h, fun h => absurd rfl h,
      fun h => absurd h (by decide), fun _ => rfl⟩
  · rw [decode, if_pos hk] at hdec
    cases hdec

/-- Settles O7: decode of each KIND is a function of the fields that its rows look at. -/
theorem ignoredBitsDoNotChangeDecoding : Obligations.IgnoredBitsDoNotChangeDecoding := by
  intro d d' p hkind hoff hdl hdata
  obtain hk | hk | hk | hk := kind_cases (kindOf d)
  · have hne : kindOf d ≠ 0b10#2 := by rw [hk]; decide
    rw [decode_of_kindRd hk, decode_of_kindRd (hkind ▸ hk), ← hoff hne, decodeRead_congr_dl (hdl hne)]
  · have hne : kindOf d ≠ 0b10#2 := by rw [hk]; decide
    rw [decode_of_kindWr hk, decode_of_kindWr (hkind ▸ hk), ← hoff hne, ← hdata hk, decodeWrite_congr_dl (hdl hne)]
  · rw [decode_of_kindInj hk, decode_of_kindInj (hkind ▸ hk)]
  · rw [decode, if_pos hk, decode, if_pos (hkind ▸ hk)]

/-- Settles O8: eleven closed words. -/
theorem writtenOutWordsDecode : Obligations.WrittenOutWordsDecode := by
  unfold Obligations.WrittenOutWordsDecode
  decide

end Sys2Proof
end

section
/-! SUPPORT. Proofs about the step: what it does with each kind of input (R50, R54, R61, R64, R66, R103). -/

namespace Sys2Proof

namespace Machine

/-! ### One equation per kind of input -/

section Step

variable {s : State} {r : Request} {rest : List Input}

theorem step_idle (hp : s.pending = []) : step s = .next s := by
  simp [step, fetch, hp]

theorem step_signalAccessor (hp : s.pending = .signalAccessor :: rest) : step s = .next (s.setPending rest) := by
  simp [step, fetch, hp]

theorem step_run {i : Instr} (hp : s.pending = .access r :: rest) (hw : r.width = 8)
    (hd : decode (descriptorOf r s) r.payload = .instr i) : step s = exec i (s.setPending rest) := by
  rw [step, fetch_run hp hw hd]

theorem step_reserved (hp : s.pending = .access r :: rest) (hw : r.width = 8)
    (hd : decode (descriptorOf r s) r.payload = .reservedKind) : step s = .refused .reservedKind := by
  rw [step, fetch_reserved hp hw hd]

theorem step_otherWidth (hp : s.pending = .access r :: rest) (hw : r.width ≠ 8) :
    step s = .refused (.accessWidth r.width) := by
  simp [step, fetch, hp, hw]

/-- A `wr` runs the write its offset names under the DLAB of the moment (R61, R68). -/
theorem step_wr {off : Offset} {v : Byte} (hp : s.pending = wr off v :: rest) :
    step s = exec (decodeWrite s.lcr[7] off v) (s.setPending rest) :=
  step_run hp rfl (by rw [descriptorOf_eq]; exact decode_write _ _ _ _)

/-- A `rd` runs the read its offset names under the DLAB of the moment (R61, R68). -/
theorem step_rd {off : Offset} (hp : s.pending = rd off :: rest) :
    step s = exec (decodeRead s.lcr[7] off) (s.setPending rest) :=
  step_run hp rfl (by rw [descriptorOf_eq]; exact decode_read _ _ _ _)

/-! ### The steps that store a latch, LCR or IER -/

theorem step_wrLcr {v : Byte} (hp : s.pending = wr 3#8 v :: rest) :
    step s = .next (((s.setPending rest).setLcr v).responded (.status .ok)) :=
  (step_wr hp).trans (exec_wrLcr v _)

theorem step_wrDll {v : Byte} (hp : s.pending = wr 0#8 v :: rest) (hdlab : s.lcr[7] = true) :
    step s = .next (((s.setPending rest).setDll v).responded (.status .ok)) := by
  rw [step_wr hp, hdlab]
  exact exec_wrDll v _

theorem step_wrDlm {v : Byte} (hp : s.pending = wr 1#8 v :: rest) (hdlab : s.lcr[7] = true) :
    step s = .next (((s.setPending rest).setDlm v).responded (.status .ok)) := by
  rw [step_wr hp, hdlab]
  exact exec_wrDlm v _

theorem step_wrIer {v : Byte} (hp : s.pending = wr 1#8 v :: rest) (hdlab : s.lcr[7] = false) :
    step s = .next (((s.setPending rest).setIer (v &&& ierValid)).responded (.status .ok)) := by
  rw [step_wr hp, hdlab]
  exact exec_wrIer v _

end Step

/-! ### A word of the table placed as the next input (log 9) -/

theorem decodeTableWord_eq_some_iff {nbits w : Nat} {i : Instr} :
    decodeTableWord nbits w = some i ↔ w < 2 ^ min nbits 19 ∧ decode (BitVec.ofNat 19 w) [] = .instr i := by
  unfold decodeTableWord
  split <;> rename_i hw
  · split <;> rename_i hd <;> simp [hw, hd]
  · simp [hw]

theorem decodeTableWord_eq_none_iff {nbits w : Nat} :
    decodeTableWord nbits w = none ↔ (w < 2 ^ min nbits 19 → decode (BitVec.ofNat 19 w) [] = .reservedKind) := by
  unfold decodeTableWord
  split <;> rename_i hw
  · split <;> rename_i hd <;> simp [hw, hd]
  · simp [hw]

theorem withDlab_eq (lcr : Byte) (dl : Bool) : withDlab lcr dl = if dl then lcr ||| 0x80#8 else lcr &&& 0x7F#8 := rfl

theorem withDlab_dlab (lcr : Byte) (dl : Bool) : (withDlab lcr dl)[7] = dl := by
  cases dl <;> revert lcr <;> decide

theorem dlOf_ofNat (w : Nat) : dlOf (BitVec.ofNat 19 w) = w.testBit 16 := by
  rw [dlOf, BitVec.getLsbD_ofNat]
  simp

section Placed

variable {nbits w : Nat} (s : State)

theorem withFetchWord_of_fits (hw : w < 2 ^ min nbits 19) :
    s.withFetchWord nbits w = (s.setLcr (withDlab s.lcr (dlOf (BitVec.ofNat 19 w)))).setPending
      (.access (requestOf (BitVec.ofNat 19 w)) :: s.pending) := if_pos hw

theorem withFetchWord_of_not_fits (hw : ¬w < 2 ^ min nbits 19) :
    s.withFetchWord nbits w =
      s.setPending (.access (requestOf (mkDescriptor kindReserved false 0#8 0#8)) :: s.pending) := if_neg hw

/-- The request of a descriptor forms that descriptor again where LCR has its DL. -/
theorem descriptorOf_requestOf {d : Descriptor} {s : State} (h : s.lcr[7] = dlOf d) :
    descriptorOf (requestOf d) s = d := by
  rw [descriptorOf_eq, h]
  exact mkDescriptor_fields d

/-- A placed word that fits forms its own descriptor. -/
theorem descriptorOf_withFetchWord (hw : w < 2 ^ min nbits 19) :
    descriptorOf (requestOf (BitVec.ofNat 19 w)) (s.withFetchWord nbits w) = BitVec.ofNat 19 w := by
  rw [withFetchWord_of_fits s hw]
  exact descriptorOf_requestOf (withDlab_dlab _ _)

theorem step_withFetchWord_some {i : Instr} (h : decodeTableWord nbits w = some i) :
    step (s.withFetchWord nbits w) = exec i (s.setLcr (withDlab s.lcr (w.testBit 16))) := by
  obtain ⟨hw, hd⟩ := decodeTableWord_eq_some_iff.1 h
  have hp : (s.withFetchWord nbits w).pending = .access (requestOf (BitVec.ofNat 19 w)) :: s.pending := by
    rw [withFetchWord_of_fits s hw]
    rfl
  rw [step_run hp rfl (by rw [descriptorOf_withFetchWord s hw]; exact hd), withFetchWord_of_fits s hw, dlOf_ofNat]
  rfl

theorem step_withFetchWord_none (h : decodeTableWord nbits w = none) :
    step (s.withFetchWord nbits w) = .refused .reservedKind := by
  by_cases hw : w < 2 ^ min nbits 19
  · refine step_reserved (by rw [withFetchWord_of_fits s hw]; rfl) rfl ?_
    rw [descriptorOf_withFetchWord s hw]
    exact decodeTableWord_eq_none_iff.1 h hw
  · rw [withFetchWord_of_not_fits s hw]
    exact step_reserved rfl rfl (if_pos (kindOf_mkDescriptor _ _ _ _))

end Placed

end Machine

open Machine

/-- Settles O10: the descriptor the block forms has LCR bit 7 as its DL. -/
theorem stepRunsDecodedTransaction : Obligations.StepRunsDecodedTransaction := by
  intro s r rest i hp hw hd
  rw [← descriptorOf_eq] at hd
  exact step_run hp hw hd

/-- Settles O11: with LCR bit 7 at the word's DL, the request placed forms the word again. -/
theorem placedWordRunsNext : Obligations.PlacedWordRunsNext :=
  fun s _ _ => ⟨fun _ => step_withFetchWord_some s, step_withFetchWord_none s⟩

/-- Settles O12: the fetch finds nothing. -/
theorem stepWithoutInputIdles : Obligations.StepWithoutInputIdles := fun _ => step_idle

/-- Settles O13: the fetch takes the input away and nothing runs. -/
theorem signalAccessorHasNoEffect : Obligations.SignalAccessorHasNoEffect := fun _ _ => step_signalAccessor

/-- Settles O14: KIND 11 in the request is KIND 11 in the descriptor, which decode answers by name. -/
theorem reservedKindIsRefused : Obligations.ReservedKindIsRefused :=
  fun _ _ _ hp hw hk => step_reserved hp hw (if_pos ((kindOf_mkDescriptor _ _ _ _).trans hk))

/-- Settles O15: the fetch looks at the width before anything else. -/
theorem otherWidthsAreRefused : Obligations.OtherWidthsAreRefused := fun _ _ _ => step_otherWidth

/-- Settles O16: under DL 1 offsets 0 and 1 decode to the latch transactions, whose equations say the rest. -/
theorem dlabSelectsDivisorLatches : Obligations.DlabSelectsDivisorLatches := by
  intro s v rest hdlab
  refine ⟨step_wrDll (s := { s with pending := wr 0#8 v :: rest }) rfl hdlab,
    step_wrDlm (s := { s with pending := wr 1#8 v :: rest }) rfl hdlab, ?_, ?_⟩ <;> rw [step_rd rfl, hdlab]
  · exact exec_rdDll _
  · exact exec_rdDlm _

/-- Settles O17: under DL 0 the same offsets decode to the data path and IER. -/
theorem clearDlabSelectsDataPathAndIer : Obligations.ClearDlabSelectsDataPathAndIer := by
  intro s v rest hdlab
  refine ⟨?_, ?_, step_wrIer (s := { s with pending := wr 1#8 v :: rest }) rfl hdlab, ?_⟩
  · rw [step_wr rfl, hdlab]; rfl
  · rw [step_rd rfl, hdlab]; rfl
  · rw [step_rd rfl, hdlab]; exact exec_rdIer _

/-- Settles O18: the second request is decoded under the bit 7 that the first one stored. -/
theorem newDlabDecidesNextTransaction : Obligations.NewDlabDecidesNextTransaction := by
  intro s v x rest
  refine ⟨_, step_wrLcr rfl, ?_⟩
  rw [step_wr rfl, Uart.State.responded_lcr, Uart.State.setLcr_lcr]
  cases v[7] with
  | true =>
    refine (exec_wrDlm x _).trans ?_
    simp [Uart.State.responded, Uart.State.setDlm, Uart.State.setLcr, Uart.State.setPending]
  | false =>
    refine (exec_wrIer x _).trans ?_
    simp [Uart.State.responded, Uart.State.setIer, Uart.State.setLcr, Uart.State.setPending, ierValid]

/-- Settles O19: the first request sets DLAB, under which the next two are the latch writes; the fourth clears it. -/
theorem setDivisorLoadsBothLatches : Obligations.SetDivisorLoadsBothLatches := by
  intro s lcr d rest
  have hdlab : (lcr ||| 0x80#8)[7] = true := by revert lcr; decide
  calc Host.Core.run Sys2Proof.core 4 _ = _ := run_succ (step_wrLcr rfl)
    _ = _ := run_succ (step_wrDll rfl hdlab)
    _ = _ := run_succ (step_wrDlm rfl hdlab)
    _ = _ := run_succ (step_wrLcr rfl)
    _ = _ := by
      simp [run_zero, Uart.State.responded, Uart.State.setDll, Uart.State.setDlm, Uart.State.setLcr,
        Uart.State.setPending]

/-- Settles O22: DL 0 at offset 1 is WR_IER, whose equation stores the masked byte. -/
theorem ierWriteKeepsValidBits : Obligations.IerWriteKeepsValidBits :=
  fun v p s => ⟨decode_write false 1#8 v p, exec_wrIer v s⟩

end Sys2Proof
end

section
/-! SUPPORT. Proofs of the exact next state of the transactions that call a capability, against the trigger written in
numerals (R75, R76, R81, R102). -/

namespace Sys2Proof

namespace Machine

variable {E_SIG E_IO : Type}

/-- A call takes its answer from the list, and draws a free value when the list is empty (log 5). -/
theorem draws_after_call {α : Type} (l : List α) (n : Nat) :
    (if l.isEmpty then n + 1 else n) = n + (1 - l.length) := by
  cases l <;> simp

/-- The model's trigger and its response are the spec's trigger in numerals. -/
theorem complete_trigger (c : Cause) (s : Uart.State E_SIG E_IO) :
    complete (trigger c s) = .next (endOfTrigger (enableBit c) (causeBit c) s) := by
  have hfires : fires c s = true ↔ s.ier &&& enableBit c ≠ 0x00#8 ∧ s.iir &&& causeBit c = 0x00#8 := by
    simp [fires, enabledIn, outstandingIn]
  obtain ⟨hf, heq⟩ | ⟨hf, heq⟩ := trigger_cases c s <;> rw [heq, complete_eq, endOfTrigger]
  · rw [if_neg (by rw [← hfires, hf]; decide)]
    rfl
  · rw [if_pos (hfires.1 hf), ← draws_after_call]
    simp [Uart.State.responded, callSignal, addCause, Uart.State.setIir, withCause, andNot, iirNone, signalAnswer]

/-- An announcement is the spec's trigger of received-data after the data-ready set. -/
theorem complete_announceData (s : Uart.State E_SIG E_IO) :
    complete (announceData s) = .next (endOfTrigger 0x01#8 0x04#8 { s with lsr := s.lsr ||| 0x01#8 }) :=
  complete_trigger .rda _

/-! ### Two sink calls -/

theorem callSink_eq (s : Uart.State E_SIG E_IO) (c : SinkCall) :
    callSink s c = { s with
      sinkAnswers := s.sinkAnswers.drop 1
      sinkDraws := s.sinkDraws + (1 - s.sinkAnswers.length)
      trace := s.trace ++ [sinkEvent c (sinkAnswer s c)] } := by
  rw [← draws_after_call, List.drop_one]
  rfl

theorem callSink_callSink (s : Uart.State E_SIG E_IO) (c c' : SinkCall) :
    callSink (callSink s c) c' = { s with
      sinkAnswers := s.sinkAnswers.drop 2
      sinkDraws := s.sinkDraws + (2 - s.sinkAnswers.length)
      trace := s.trace ++ [sinkEvent c (sinkAnswer s c), sinkEvent c' (sinkAnswer (callSink s c) c')] } := by
  have hdraws : s.sinkDraws + (1 - s.sinkAnswers.length) + (1 - (s.sinkAnswers.drop 1).length) =
      s.sinkDraws + (2 - s.sinkAnswers.length) := by
    rw [List.length_drop]
    omega
  rw [callSink_eq (callSink s c)]
  simp only [callSink_eq s c, hdraws, List.drop_drop, List.append_assoc, List.cons_append, List.nil_append]

/-! ### The branches taken for certain -/

/-- Below the cap a loopback write announces the queue with the byte at its end. -/
theorem loopbackWrite_of_room {s : Uart.State E_SIG E_IO} (hroom : s.rxq.length < 64) (v : Byte) :
    loopbackWrite v s = announceData (s.enqueue [v]) := if_pos hroom

/-- After two accepted sink calls a transmission is one trigger of THR-empty. -/
theorem transmit_of_ok {v : Byte} {s : Uart.State E_SIG E_IO} (hwrite : sinkAnswer s (.write v) = .ok)
    (hflush : sinkAnswer (callSink s (.write v)) .flush = .ok) :
    transmit v s = trigger .thre (callSink (callSink s (.write v)) .flush) := by
  simp only [transmit, hwrite, hflush]

end Machine

open Machine

/-- Settles O24: the announcement below the cap, in numerals. -/
theorem loopbackWriteQueuesByte : Obligations.LoopbackWriteQueuesByte := by
  intro v s hloop hroom
  rw [exec_wrThr_loopback hloop, loopbackWrite_of_room hroom]
  exact complete_announceData _

/-- Settles O25: at the cap a loopback write is silent or announces the queue as it is, by the open parameter. -/
theorem loopbackWriteToFullQueueDropsByte : Obligations.LoopbackWriteToFullQueueDropsByte := by
  intro v s hloop hfull
  have hroom : ¬s.rxq.length < fifoCap := Nat.not_lt.2 hfull
  constructor <;> intro hparam <;> rw [exec_wrThr_loopback hloop, loopbackWrite, if_neg hroom, hparam]
  · exact complete_ok_eq s
  · exact complete_announceData s

/-- Settles O26: the trigger after two accepted sink calls, in numerals. -/
theorem transmitTriggersThrEmpty : Obligations.TransmitTriggersThrEmpty := by
  intro v s hnormal hwrite hflush
  rw [exec_wrThr_normal hnormal, transmit_of_ok hwrite hflush, complete_trigger, callSink_callSink, hwrite, hflush]
  rfl

/-- Settles O27: a transmission is cut off at the call that failed. -/
theorem transmitStopsAtFirstSinkFailure : Obligations.TransmitStopsAtFirstSinkFailure := by
  intro v s e hnormal
  rw [exec_wrThr_normal hnormal]
  refine ⟨fun hwrite => ?_, fun hwrite hflush => ?_⟩
  · have htransmit : transmit v s = (callSink s (.write v), .errIo e) := by simp only [transmit, hwrite]
    rw [htransmit, callSink_eq, hwrite]
    simp [complete_eq, Uart.State.responded, sinkEvent]
  · have htransmit : transmit v s = (callSink (callSink s (.write v)) .flush, .errIo e) := by
      simp only [transmit, hwrite, hflush]
    rw [htransmit, callSink_callSink, hwrite, hflush]
    simp [complete_eq, Uart.State.responded, sinkEvent]

/-- Settles O36: an injection with effect announces the queue with the payload at its end. -/
theorem injectionAppendsWholePayload : Obligations.InjectionAppendsWholePayload := by
  intro p s hnormal heffect
  rw [exec_inj_normal hnormal]
  obtain ⟨hempty, hsilent, -⟩ | ⟨-, heq⟩ := injectBytes_cases p s
  · simp [hempty, hsilent] at heffect
  · rw [heq]
    exact complete_announceData _

/-- Settles O37: either case completes from the state as it is. -/
theorem injectionWithoutEffect : Obligations.InjectionWithoutEffect := by
  rintro p s hcase
  cases hmode : s.mcr[4] with
  | true => exact exec_inj_loopback hmode p
  | false =>
    obtain hloop | ⟨rfl, hsilent⟩ := hcase
    · rw [hmode] at hloop
      cases hloop
    · rw [exec_inj_normal hmode, injectBytes, hsilent]
      rfl

end Sys2Proof
end

section
/-! SUPPORT. Proofs about single registers: reset and layout (R25, R43, R124), the modem status (R78), which reads are
idempotent (R51), and the divisor (R27). -/

namespace Sys2Proof

namespace Machine

/-- The lines that loopback mirrors (R78), by all 256 values of MCR. -/
theorem loopbackMsr_spec (mcr : Byte) :
    (loopbackMsr mcr)[7] = mcr[3] ∧ (loopbackMsr mcr)[6] = mcr[2] ∧ (loopbackMsr mcr)[5] = mcr[0] ∧
      (loopbackMsr mcr)[4] = mcr[1] ∧ loopbackMsr mcr &&& 0x0F#8 = 0x00#8 := by
  revert mcr
  decide

theorem msrValue_normal {s : State} (h : s.mcr[4] = false) : msrValue s = s.msr := by
  rw [msrValue, loopMode_eq, h]
  rfl

theorem msrValue_loopback {s : State} (h : s.mcr[4] = true) : msrValue s = loopbackMsr s.mcr := by
  rw [msrValue, loopMode_eq, h]
  rfl

/-- A plain read answers a byte that a response in between does not change (R51). -/
theorem plainRead_byte {i : Instr} (hread : i.isRead = true) (hrbr : i ≠ .rdRbr) (hiir : i ≠ .rdIir) :
    ∃ f : State → Byte, ∀ s, exec i s = .next (s.responded (.rdata (f s))) ∧ ∀ r, f (s.responded r) = f s := by
  cases i with
  | rdDll | rdDlm | rdIer | rdLcr | rdMcr | rdLsr | rdMsr | rdScr | rdNop =>
    exact ⟨_, fun s => ⟨returnByte_eq _ s, fun _ => rfl⟩⟩
  | rdRbr => exact absurd rfl hrbr
  | rdIir => exact absurd rfl hiir
  | wrDll | wrDlm | wrThr | wrIer | wrIir | wrLcr | wrMcr | wrLsr | wrMsr | wrScr | wrNop | inj => cases hread

end Machine

open Machine

/-- Settles O1: by the definition of reset. -/
theorem resetHoldsDefaultSnapshot : Obligations.ResetHoldsDefaultSnapshot := ⟨rfl, rfl⟩

/-- Settles O2: closed equations between constants. -/
theorem layoutConstantsFollowTheTable : Obligations.LayoutConstantsFollowTheTable := by
  unfold Obligations.LayoutConstantsFollowTheTable
  decide

/-- Settles O3: one step from reset for each read, and two after the one that sets DLAB. -/
theorem firstReadsAfterReset : Obligations.FirstReadsAfterReset :=
  ⟨rfl, rfl, rfl, rfl, rfl, rfl, rfl, rfl, _, rfl, rfl, rfl⟩

/-- Settles O30: the read answers `msrValue`, which is one or the other by bit 4 of MCR. -/
theorem modemStatusReadMirrorsOutputs : Obligations.ModemStatusReadMirrorsOutputs := by
  intro s
  refine ⟨msrValue s, exec_rdMsr s, msrValue_normal, fun hloop => ?_⟩
  rw [msrValue_loopback hloop]
  exact loopbackMsr_spec s.mcr

/-- Settles O34: a plain read changes nothing it looks at; the data read of a queue of two bytes and the IIR read of an
outstanding cause differ from the next one. -/
theorem onlyTwoReadsAreNotIdempotent : Obligations.OnlyTwoReadsAreNotIdempotent := by
  refine ⟨fun i s hread hrbr hiir => ?_,
    ⟨State.reset.setRxq [0x01#8, 0x02#8], _, _, 0x01#8, 0x02#8, rfl, rfl, rfl, by decide⟩,
    ⟨State.reset.setIir 0x04#8, _, _, 0xC4#8, 0xC1#8, rfl, rfl, rfl, by decide⟩⟩
  obtain ⟨f, hf⟩ := plainRead_byte hread hrbr hiir
  obtain ⟨hfirst, hkept⟩ := hf s
  obtain ⟨hsecond, -⟩ := hf (s.responded (.rdata (f s)))
  rw [hkept] at hsecond
  exact ⟨f s, hfirst, hsecond⟩

/-- Settles O35: the latches side by side are the divisor's high and low byte. -/
theorem divisorIsHighByteTimes256PlusLow : Obligations.DivisorIsHighByteTimes256PlusLow := by
  intro s
  have hlow : s.dll.toNat < 2 ^ 8 := s.dll.isLt
  rw [Uart.State.divisor, BitVec.toNat_append, ← Nat.shiftLeft_add_eq_or_of_lt hlow, Nat.shiftLeft_eq]

end Sys2Proof
end

section
/-! SUPPORT. Proofs about the invariants of 10_state.md section 7: the launch and reset meet them, and every step keeps
them (R38 to R42, R104). -/

namespace Sys2Proof

namespace Machine

/-! ### What the invariants make of the flag computations -/

/-- Marking a cause keeps IIR among the values R40 allows, NONE apart. -/
theorem iir_withCause {c : Cause} {iir : Byte}
    (h : iir = 0x01#8 ∨ iir = 0x02#8 ∨ iir = 0x04#8 ∨ iir = 0x06#8) :
    withCause c iir = 0x02#8 ∨ withCause c iir = 0x04#8 ∨ withCause c iir = 0x06#8 := by
  obtain rfl | rfl | rfl | rfl := h <;> cases c <;> decide

/-- Marking THR-empty does not make received-data outstanding. -/
theorem iir_of_withCause_thre {iir : Byte} (h : iir = 0x01#8 ∨ iir = 0x02#8 ∨ iir = 0x04#8 ∨ iir = 0x06#8)
    (hrda : withCause .thre iir = 0x04#8 ∨ withCause .thre iir = 0x06#8) : iir = 0x04#8 ∨ iir = 0x06#8 := by
  revert hrda
  obtain rfl | rfl | rfl | rfl := h <;> decide

/-- Acknowledging received-data leaves NONE or THR-empty. -/
theorem iir_withoutCause_rda {iir : Byte} (h : iir = 0x01#8 ∨ iir = 0x02#8 ∨ iir = 0x04#8 ∨ iir = 0x06#8) :
    withoutCause .rda iir = 0x01#8 ∨ withoutCause .rda iir = 0x02#8 := by
  obtain rfl | rfl | rfl | rfl := h <;> decide

theorem lsr_withDr {lsr : Byte} (h : lsr = 0x60#8 ∨ lsr = 0x61#8) : withDr lsr = 0x61#8 := by
  obtain rfl | rfl := h <;> decide

theorem lsr_withoutDr {lsr : Byte} (h : lsr = 0x60#8 ∨ lsr = 0x61#8) : withoutDr lsr = 0x60#8 := by
  obtain rfl | rfl := h <;> decide

/-! ### The invariants, operation by operation -/

section Keeps

variable {s : State}

/-- The invariants of a state in its own fields. -/
theorem safeState_iff :
    SafeState s ↔ s.ier &&& 0xF0#8 = 0x00#8 ∧ (s.lsr = 0x60#8 ∨ s.lsr = 0x61#8) ∧
      (s.iir = 0x01#8 ∨ s.iir = 0x02#8 ∨ s.iir = 0x04#8 ∨ s.iir = 0x06#8) ∧
      (2 ≤ s.rxq.length → s.lsr = 0x61#8) ∧
      (s.params.emptyInject = false → s.lsr = 0x61#8 → 1 ≤ s.rxq.length) ∧
      (s.params.emptyInject = false → (s.iir = 0x04#8 ∨ s.iir = 0x06#8) → 1 ≤ s.rxq.length) ∧ s.msr = 0xB0#8 :=
  Iff.rfl

theorem safeState_addCause_rda (hs : SafeState s) (hqueue : s.params.emptyInject = false → 1 ≤ s.rxq.length) :
    SafeState (addCause .rda s) := by
  obtain ⟨hier, hlsr, hiir, hlong, hdr, -, hmsr⟩ := hs
  exact ⟨hier, hlsr, .inr (iir_withCause hiir), hlong, hdr, fun hparam _ => hqueue hparam, hmsr⟩

theorem safeState_addCause_thre (hs : SafeState s) : SafeState (addCause .thre s) := by
  obtain ⟨hier, hlsr, hiir, hlong, hdr, hrda, hmsr⟩ := hs
  exact ⟨hier, hlsr, .inr (iir_withCause hiir), hlong, hdr,
    fun hparam h => hrda hparam (iir_of_withCause_thre hiir h), hmsr⟩

/-- A trigger keeps the invariants when its mark does; Signal() touches no register. -/
theorem safeState_trigger {c : Cause} (hs : SafeState s) (hmark : SafeState (addCause c s)) :
    SafeState (trigger c s).1 := by
  obtain ⟨-, heq⟩ | ⟨-, heq⟩ := trigger_cases c s <;> rw [heq]
  · exact hs
  · exact hmark

/-- With bytes at its end, or P_EMPTY_INJECT true, a queue may be announced. -/
theorem safeState_announceData_enqueue (hs : SafeState s) {q : List Byte}
    (hqueue : s.params.emptyInject = false → 1 ≤ (s.rxq ++ q).length) :
    SafeState (announceData (s.enqueue q)).1 := by
  obtain ⟨hier, hlsr, hiir, -, -, -, hmsr⟩ := hs
  have hready : SafeState (setDr (s.enqueue q)) :=
    ⟨hier, .inr (lsr_withDr hlsr), hiir, fun _ => lsr_withDr hlsr, fun hparam _ => hqueue hparam,
      fun hparam _ => hqueue hparam, hmsr⟩
  exact safeState_trigger hready (safeState_addCause_rda hready hqueue)

theorem enqueue_nil {E_SIG E_IO : Type} (s : Uart.State E_SIG E_IO) : s.enqueue [] = s := by
  simp [Uart.State.enqueue, Uart.State.setRxq]

theorem safeState_loopbackWrite (hs : SafeState s) (v : Byte) : SafeState (loopbackWrite v s).1 := by
  obtain ⟨-, heq⟩ | ⟨hfull, -, heq⟩ | ⟨-, -, heq⟩ := loopbackWrite_cases v s <;> rw [heq]
  · exact safeState_announceData_enqueue hs fun _ => by simp
  · rw [← enqueue_nil s]
    exact safeState_announceData_enqueue hs fun _ => by rw [List.append_nil]; omega
  · exact hs

theorem safeState_injectBytes (hs : SafeState s) (p : List Byte) : SafeState (injectBytes p s).1 := by
  obtain ⟨-, -, heq⟩ | ⟨heffect, heq⟩ := injectBytes_cases p s <;> rw [heq]
  · exact hs
  · refine safeState_announceData_enqueue hs fun hparam => ?_
    obtain hne | hparam' := heffect
    · have := List.length_pos_iff.2 hne
      rw [List.length_append]
      omega
    · rw [hparam] at hparam'
      cases hparam'

theorem safeState_transmit (hs : SafeState s) (v : Byte) : SafeState (transmit v s).1 := by
  obtain ⟨_, -, heq⟩ | ⟨_, -, -, heq⟩ | ⟨-, -, heq⟩ := transmit_cases v s <;> rw [heq]
  · exact hs
  · exact hs
  · have hsent : SafeState (callSink (callSink s (.write v)) .flush) := hs
    exact safeState_trigger hsent (safeState_addCause_thre hsent)

/-- The data read: data-ready goes when at most one entry is left, received-data in any case (R93). -/
theorem safeState_dataRead (hs : SafeState s) :
    SafeState (((s.setIir (withoutCause .rda s.iir)).setRxq s.rxq.tail).setLsr
      (if s.rxq.length - 1 ≤ 1 then withoutDr s.lsr else s.lsr)) := by
  obtain ⟨hier, hlsr, hiir, hlong, -, -, hmsr⟩ := safeState_iff.1 hs
  have hack := iir_withoutCause_rda hiir
  have hnone : ¬(withoutCause .rda s.iir = 0x04#8 ∨ withoutCause .rda s.iir = 0x06#8) := by
    obtain h | h := hack <;> rw [h] <;> decide
  have hlength : s.rxq.tail.length = s.rxq.length - 1 := List.length_tail
  by_cases hdrained : s.rxq.length - 1 ≤ 1
  · rw [if_pos hdrained, lsr_withoutDr hlsr]
    exact safeState_iff.2 ⟨hier, .inl rfl, hack.imp_right .inl, fun h => absurd (hlength ▸ h) (by omega),
      fun _ h => absurd h (by simp), fun _ h => absurd h hnone, hmsr⟩
  · have hdr : s.lsr = 0x61#8 := hlong (by omega)
    have hleft : 1 ≤ s.rxq.tail.length := by omega
    rw [if_neg hdrained]
    exact safeState_iff.2 ⟨hier, hlsr, hack.imp_right .inl, fun _ => hdr, fun _ _ => hleft, fun _ _ => hleft, hmsr⟩

end Keeps

/-! ### Every transaction and every step -/

/-- The invariants speak of the record and the parameters alone, so an answer given keeps them. -/
theorem safeState_of_complete {p : State × Resp SigError IoError} {t : State} (hp : SafeState p.1)
    (h : complete p = .next t) : SafeState t := by
  cases h
  exact hp

theorem exec_keeps_safeState {i : Instr} {s t : State} (hs : SafeState s) (h : exec i s = .next t) : SafeState t := by
  cases i with
  | wrThr v =>
    cases hmode : s.mcr[4] with
    | true => exact safeState_of_complete (safeState_loopbackWrite hs v) (exec_wrThr_loopback hmode v ▸ h)
    | false => exact safeState_of_complete (safeState_transmit hs v) (exec_wrThr_normal hmode v ▸ h)
  | inj p =>
    cases hmode : s.mcr[4] with
    | true => exact safeState_of_complete hs (exec_inj_loopback hmode p ▸ h)
    | false => exact safeState_of_complete (safeState_injectBytes hs p) (exec_inj_normal hmode p ▸ h)
  | rdRbr =>
    rw [exec_rdRbr] at h
    cases h
    exact safeState_dataRead hs
  | rdIir =>
    obtain ⟨hier, hlsr, -, hlong, hdr, -, hmsr⟩ := hs
    have hnone : ¬(iirNone = 0x04#8 ∨ iirNone = 0x06#8) := by decide
    cases h
    exact ⟨hier, hlsr, .inl rfl, hlong, hdr, fun _ hrda => absurd hrda hnone, hmsr⟩
  | wrIer v =>
    have hmask : ∀ b : Byte, b &&& ierValid &&& 0xF0#8 = 0x00#8 := by decide
    obtain ⟨-, hrest⟩ := hs
    cases h
    exact ⟨hmask v, hrest⟩
  | wrDll | wrDlm | wrIir | wrLcr | wrMcr | wrLsr | wrMsr | wrScr | wrNop | rdDll | rdDlm | rdIer | rdLcr | rdMcr
  | rdLsr | rdMsr | rdScr | rdNop =>
    cases h
    exact hs

end Machine

open Machine

/-- Settles O38: `launch` tests the invariants and restores. -/
theorem launchIsResetOrRestoredRecord : Obligations.LaunchIsResetOrRestoredRecord :=
  ⟨rfl, fun _ => ⟨fun h => if_pos h, fun h => if_neg h⟩⟩

/-- Settles O39: data-ready is clear, no cause is outstanding and the queue is empty, whatever the parameters. -/
theorem resetMeetsInvariants : Obligations.ResetMeetsInvariants :=
  ⟨by decide, .inl rfl, .inl rfl, fun h => absurd h (by decide), fun _ h => absurd h (by decide),
    fun _ h => absurd h (by decide), rfl⟩

/-- Settles O40: the pending inputs are no part of the invariants, and each transaction keeps them. -/
theorem stepKeepsInvariants : Obligations.StepKeepsInvariants := by
  intro s t hs h
  obtain ⟨hp, -⟩ | ⟨rest, hp, -⟩ | ⟨r, rest, i, hp, hw, hd, -⟩ | ⟨r, rest, hp, hw, hd, -⟩ | ⟨r, rest, hp, hw, -⟩ :=
    fetch_cases s
  · cases (step_idle hp).symm.trans h
    exact hs
  · cases (step_signalAccessor hp).symm.trans h
    exact hs
  · have hpopped : SafeState (s.setPending rest) := hs
    exact exec_keeps_safeState hpopped ((step_run hp hw hd).symm.trans h)
  · cases (step_reserved hp hw hd).symm.trans h
  · cases (step_otherWidth hp hw).symm.trans h

end Sys2Proof
end

section
/-! SUPPORT. Proofs about every transaction at once: what may change (R21, R31, R33, R36), how many calls are made and
for which cause (R102, R114), what acknowledges (R112, R116), and the response that follows the calls (R62, R105). -/

namespace Sys2Proof

namespace Machine

variable {E_SIG E_IO : Type}

/-! ### The two transactions that call a capability -/

theorem calling_cases (i : Instr) :
    (∃ v, i = .wrThr v) ∨ (∃ b, i = .inj b) ∨ (∀ v, i ≠ .wrThr v) ∧ ∀ b, i ≠ .inj b := by
  by_cases hthr : ∃ v, i = .wrThr v
  · exact .inl hthr
  · by_cases hinj : ∃ b, i = .inj b
    · exact .inr (.inl hinj)
    · exact .inr (.inr ⟨not_exists.1 hthr, not_exists.1 hinj⟩)

/-- What a loopback data write and an injection can come to: nothing, or bytes queued and announced (R81, R102). -/
def Announces (s : Uart.State E_SIG E_IO) (p : Uart.State E_SIG E_IO × Resp E_SIG E_IO) : Prop :=
  p = (s, .ok) ∨ ∃ q, p = announceData (s.enqueue q)

theorem announces_loopbackWrite (v : Byte) (s : Uart.State E_SIG E_IO) : Announces s (loopbackWrite v s) := by
  obtain ⟨-, heq⟩ | ⟨-, -, heq⟩ | ⟨-, -, heq⟩ := loopbackWrite_cases v s
  · exact .inr ⟨[v], heq⟩
  · exact .inr ⟨[], by rw [enqueue_nil, heq]⟩
  · exact .inl heq

theorem announces_inj (b : List Byte) (s : State) : ∃ p, exec (.inj b) s = complete p ∧ Announces s p := by
  cases hmode : s.mcr[4] with
  | true => exact ⟨_, exec_inj_loopback hmode b, .inl rfl⟩
  | false =>
    refine ⟨_, exec_inj_normal hmode b, ?_⟩
    obtain ⟨-, -, heq⟩ | ⟨-, heq⟩ := injectBytes_cases b s
    · exact .inl heq
    · exact .inr ⟨b, heq⟩

/-- All a data write can come to. -/
theorem exec_wrThr_cases (v : Byte) (s : State) :
    ∃ p, exec (.wrThr v) s = complete p ∧
      (s.mcr[4] = true ∧ Announces s p ∨ s.mcr[4] = false ∧ p = transmit v s) := by
  cases hmode : s.mcr[4] with
  | true => exact ⟨_, exec_wrThr_loopback hmode v, .inl ⟨rfl, announces_loopbackWrite v s⟩⟩
  | false => exact ⟨_, exec_wrThr_normal hmode v, .inr ⟨rfl, rfl⟩⟩

theorem next_of_complete {p : Uart.State E_SIG E_IO × Resp E_SIG E_IO} {t : Uart.State E_SIG E_IO}
    (h : complete p = .next t) : p.1.responded (.status p.2) = t := by
  simpa [complete_eq] using h

/-- A transaction that calls no capability is seen to respond and nothing else (R106). -/
theorem quiet_trace {i : Instr} {s t : State} (hthr : ∀ v, i ≠ .wrThr v) (hinj : ∀ p, i ≠ .inj p)
    (h : exec i s = .next t) : ∃ r, t.trace = s.trace ++ [.response r] := by
  obtain ⟨hread, hwrite, -⟩ := otherTransactionsCannotFail i s
  cases hkind : i.isRead with
  | true =>
    obtain ⟨b, u, hu, htrace⟩ := hread hkind
    cases hu.symm.trans h
    exact ⟨_, htrace⟩
  | false =>
    obtain ⟨u, hu, htrace⟩ := hwrite hkind hthr hinj
    cases hu.symm.trans h
    exact ⟨_, htrace⟩

/-! ### Frames (R21, R36) -/

/-- What the two calling transactions leave unchanged: all but IIR, data-ready, the queue and the capabilities'. -/
def CallFrame (s t : Uart.State E_SIG E_IO) : Prop :=
  (t.dll = s.dll ∧ t.dlm = s.dlm ∧ t.ier = s.ier ∧ t.lcr = s.lcr ∧ t.mcr = s.mcr ∧ t.scr = s.scr) ∧
  t.lsr &&& 0xFE#8 = s.lsr &&& 0xFE#8 ∧ t.msr = s.msr ∧ t.params = s.params ∧ t.pending = s.pending

theorem callFrame_refl (s : Uart.State E_SIG E_IO) : CallFrame s s :=
  ⟨⟨rfl, rfl, rfl, rfl, rfl, rfl⟩, rfl, rfl, rfl, rfl⟩

theorem callFrame_trigger {s q : Uart.State E_SIG E_IO} (h : CallFrame s q) (c : Cause) :
    CallFrame s (trigger c q).1 := by
  obtain ⟨_, _, _, _, heq⟩ := trigger_frame c q
  rw [heq]
  exact h

theorem callFrame_announces {s : Uart.State E_SIG E_IO} {p : Uart.State E_SIG E_IO × Resp E_SIG E_IO}
    (h : Announces s p) : CallFrame s p.1 := by
  have hready : ∀ b : Byte, withDr b &&& 0xFE#8 = b &&& 0xFE#8 := by decide
  obtain rfl | ⟨q, rfl⟩ := h
  · exact callFrame_refl s
  · have hset : CallFrame s (setDr (s.enqueue q)) :=
      ⟨⟨rfl, rfl, rfl, rfl, rfl, rfl⟩, hready s.lsr, rfl, rfl, rfl⟩
    exact callFrame_trigger hset .rda

theorem callFrame_transmit (v : Byte) (s : Uart.State E_SIG E_IO) : CallFrame s (transmit v s).1 := by
  obtain ⟨_, -, heq⟩ | ⟨_, -, -, heq⟩ | ⟨-, -, heq⟩ := transmit_cases v s <;> rw [heq]
  · exact callFrame_refl s
  · exact callFrame_refl s
  · have hsent : CallFrame s (callSink (callSink s (.write v)) .flush) := callFrame_refl s
    exact callFrame_trigger hsent .thre

theorem callFrame_wrThr {v : Byte} {s t : State} (h : exec (.wrThr v) s = .next t) : CallFrame s t := by
  obtain ⟨p, hexec, ⟨-, hp⟩ | ⟨-, rfl⟩⟩ := exec_wrThr_cases v s <;> rw [hexec] at h <;>
    obtain rfl := next_of_complete h
  · exact callFrame_announces hp
  · exact callFrame_transmit v s

theorem callFrame_inj {b : List Byte} {s t : State} (h : exec (.inj b) s = .next t) : CallFrame s t := by
  obtain ⟨p, hexec, hp⟩ := announces_inj b s
  rw [hexec] at h
  obtain rfl := next_of_complete h
  exact callFrame_announces hp

/-! ### Causes (R110, R114, R116) -/

/-- A trigger leaves the other cause as it is and acknowledges nothing. -/
theorem outstandingIn_trigger (c c' : Cause) (s : Uart.State E_SIG E_IO) :
    (c' ≠ c → outstandingIn c' (trigger c s).1.iir = outstandingIn c' s.iir) ∧
      (outstandingIn c' s.iir = true → outstandingIn c' (trigger c s).1.iir = true) := by
  obtain ⟨-, heq⟩ | ⟨-, heq⟩ := trigger_cases c s <;> rw [heq]
  · exact ⟨fun _ => rfl, id⟩
  · obtain ⟨hmark, -⟩ := withCause_spec c c' s.iir
    refine ⟨fun hne => ?_, fun h => ?_⟩
    · exact hmark.trans (by simp [hne])
    · exact hmark.trans (by simp [h])

theorem outstandingIn_announces {s : Uart.State E_SIG E_IO} {p : Uart.State E_SIG E_IO × Resp E_SIG E_IO}
    (h : Announces s p) :
    outstandingIn .thre p.1.iir = outstandingIn .thre s.iir ∧
      ∀ c, outstandingIn c s.iir = true → outstandingIn c p.1.iir = true := by
  obtain rfl | ⟨q, rfl⟩ := h
  · exact ⟨rfl, fun _ => id⟩
  · obtain ⟨hother, -⟩ := outstandingIn_trigger .rda .thre (setDr (s.enqueue q))
    refine ⟨hother (by decide), fun c => ?_⟩
    obtain ⟨-, hkept⟩ := outstandingIn_trigger .rda c (setDr (s.enqueue q))
    exact hkept

theorem outstandingIn_transmit (v : Byte) (s : Uart.State E_SIG E_IO) :
    outstandingIn .rda (transmit v s).1.iir = outstandingIn .rda s.iir ∧
      ∀ c, outstandingIn c s.iir = true → outstandingIn c (transmit v s).1.iir = true := by
  obtain ⟨_, -, heq⟩ | ⟨_, -, -, heq⟩ | ⟨-, -, heq⟩ := transmit_cases v s <;> rw [heq]
  · exact ⟨rfl, fun _ => id⟩
  · exact ⟨rfl, fun _ => id⟩
  · obtain ⟨hother, -⟩ := outstandingIn_trigger .thre .rda (callSink (callSink s (.write v)) .flush)
    refine ⟨hother (by decide), fun c => ?_⟩
    obtain ⟨-, hkept⟩ := outstandingIn_trigger .thre c (callSink (callSink s (.write v)) .flush)
    exact hkept

theorem outstandingIn_wrThr {v : Byte} {s t : State} (h : exec (.wrThr v) s = .next t) (c : Cause)
    (hout : outstandingIn c s.iir = true) : outstandingIn c t.iir = true := by
  obtain ⟨p, hexec, ⟨-, hp⟩ | ⟨-, rfl⟩⟩ := exec_wrThr_cases v s <;> rw [hexec] at h <;>
    obtain rfl := next_of_complete h
  · obtain ⟨-, hkept⟩ := outstandingIn_announces hp
    exact hkept c hout
  · obtain ⟨-, hkept⟩ := outstandingIn_transmit v s
    exact hkept c hout

theorem outstandingIn_inj {b : List Byte} {s t : State} (h : exec (.inj b) s = .next t) (c : Cause)
    (hout : outstandingIn c s.iir = true) : outstandingIn c t.iir = true := by
  obtain ⟨p, hexec, hp⟩ := announces_inj b s
  rw [hexec] at h
  obtain rfl := next_of_complete h
  obtain ⟨-, hkept⟩ := outstandingIn_announces hp
  exact hkept c hout

/-- The data read acknowledges received-data, leaves THR-empty as it is, and is seen to respond only (R93). -/
theorem acknowledge_of_exec_rdRbr {s t : State} (h : exec .rdRbr s = .next t) :
    t.iir[2] = false ∧ t.iir[1] = s.iir[1] ∧ ∃ b, t.trace = s.trace ++ [.response (.rdata b)] := by
  have hack : ∀ b : Byte, (withoutCause .rda b)[2] = false ∧ (withoutCause .rda b)[1] = b[1] := by decide
  obtain ⟨hrda, hthre⟩ := hack s.iir
  rw [exec_rdRbr] at h
  cases h
  exact ⟨hrda, hthre, s.front, rfl⟩

/-- The IIR read acknowledges both causes and is seen to respond only (R95). -/
theorem acknowledge_of_exec_rdIir {s t : State} (h : exec .rdIir s = .next t) :
    t.iir[1] = false ∧ t.iir[2] = false ∧ ∃ b, t.trace = s.trace ++ [.response (.rdata b)] := by
  have hnone : iirNone[1] = false ∧ iirNone[2] = false := by decide
  obtain ⟨hthre, hrda⟩ := hnone
  cases h
  exact ⟨hthre, hrda, _, rfl⟩

/-! ### What the calls show (R102, R114) -/

theorem signalCount_trigger_le (c : Cause) (s : Uart.State E_SIG E_IO) :
    signalCount (trigger c s).1.trace ≤ signalCount s.trace + 1 := by
  rw [signalCount_trigger]
  split <;> omega

theorem signalCount_announces_le {s : Uart.State E_SIG E_IO} {p : Uart.State E_SIG E_IO × Resp E_SIG E_IO}
    (h : Announces s p) : signalCount p.1.trace ≤ signalCount s.trace + 1 := by
  obtain rfl | ⟨q, rfl⟩ := h
  · exact Nat.le_succ _
  · exact signalCount_trigger_le .rda _

theorem signalCount_transmit_le (v : Byte) (s : Uart.State E_SIG E_IO) :
    signalCount (transmit v s).1.trace ≤ signalCount s.trace + 1 := by
  have hsent : signalCount (callSink (callSink s (.write v)) .flush).trace = signalCount s.trace := by
    rw [signalCount_callSink, signalCount_callSink]
  obtain ⟨_, -, heq⟩ | ⟨_, -, -, heq⟩ | ⟨-, -, heq⟩ := transmit_cases v s <;> rw [heq]
  · exact (signalCount_callSink s _).trans_le (Nat.le_succ _)
  · exact hsent.trans_le (Nat.le_succ _)
  · exact hsent ▸ signalCount_trigger_le .thre _

theorem sinkBytes_trigger (c : Cause) (s : Uart.State E_SIG E_IO) :
    sinkBytes (trigger c s).1.trace = sinkBytes s.trace := by
  obtain ⟨-, heq⟩ | ⟨-, heq⟩ := trigger_cases c s <;> rw [heq]
  simp [sinkBytes_append, sinkBytes, addCause]

theorem sinkBytes_announces {s : Uart.State E_SIG E_IO} {p : Uart.State E_SIG E_IO × Resp E_SIG E_IO}
    (h : Announces s p) : sinkBytes p.1.trace = sinkBytes s.trace := by
  obtain rfl | ⟨q, rfl⟩ := h
  · rfl
  · exact sinkBytes_trigger .rda _

/-- The byte is offered once, whatever the two sink calls answer. -/
theorem sinkBytes_transmit (v : Byte) (s : Uart.State E_SIG E_IO) :
    sinkBytes (transmit v s).1.trace = sinkBytes s.trace ++ [v] := by
  obtain ⟨_, -, heq⟩ | ⟨_, -, -, heq⟩ | ⟨-, -, heq⟩ := transmit_cases v s <;> rw [heq]
  · simp [sinkBytes_append, sinkBytes, sinkEvent]
  · simp [sinkBytes_append, sinkBytes, sinkEvent]
  · simp [sinkBytes_trigger, sinkBytes_append, sinkBytes, sinkEvent]

theorem sinkBytes_responded (s : Uart.State E_SIG E_IO) (r : Response E_SIG E_IO) :
    sinkBytes (s.responded r).trace = sinkBytes s.trace := by
  simp [sinkBytes_append, sinkBytes]

/-! ### The response follows the calls (R62, R105) -/

/-- The calls account for the status `q`: none of them is a response, and `q` carries exactly the error answered. -/
def Explains (calls : List (Event E_SIG E_IO)) (q : Resp E_SIG E_IO) : Prop :=
  (∀ x ∈ calls, x.isResponse = false) ∧ (∀ e, q = .errSignal e ↔ .signal (.err e) ∈ calls) ∧
    ∀ e, q = .errIo e ↔ (∃ b, .sinkWrite b (.err e) ∈ calls) ∨ .sinkFlush (.err e) ∈ calls

/-- The transaction's steps, from `s` to `p`, made calls that account for the status they gave. -/
def Explained (s : Uart.State E_SIG E_IO) (p : Uart.State E_SIG E_IO × Resp E_SIG E_IO) : Prop :=
  ∃ calls, p.1.trace = s.trace ++ calls ∧ Explains calls p.2

theorem explains_nil : Explains ([] : List (Event E_SIG E_IO)) .ok := by
  simp [Explains]

theorem explains_signal (a : Answer E_SIG) : Explains [(.signal a : Event E_SIG E_IO)] (respOfSignal a) := by
  cases a with
  | ok => simp [Explains, respOfSignal, Event.isResponse]
  | err e => simpa [Explains, respOfSignal, Event.isResponse] using fun e' => eq_comm

theorem explains_sinkEvent_err (c : SinkCall) (e : E_IO) :
    Explains [(sinkEvent c (.err e) : Event E_SIG E_IO)] (.errIo e) := by
  cases c <;> simpa [Explains, sinkEvent, Event.isResponse] using fun e' => eq_comm

/-- An accepted sink call before the others adds no error. -/
theorem explains_sinkEvent_ok {calls : List (Event E_SIG E_IO)} {q : Resp E_SIG E_IO} (h : Explains calls q)
    (c : SinkCall) : Explains (sinkEvent c .ok :: calls) q := by
  cases c <;> simpa [Explains, sinkEvent, Event.isResponse] using h

theorem explained_refl (s : Uart.State E_SIG E_IO) : Explained s (s, .ok) :=
  ⟨[], (List.append_nil _).symm, explains_nil⟩

theorem explained_trigger (c : Cause) (s : Uart.State E_SIG E_IO) : Explained s (trigger c s) := by
  obtain ⟨-, heq⟩ | ⟨-, heq⟩ := trigger_cases c s <;> rw [heq]
  · exact explained_refl s
  · exact ⟨_, callSignal_trace _, explains_signal _⟩

theorem explained_announces {s : Uart.State E_SIG E_IO} {p : Uart.State E_SIG E_IO × Resp E_SIG E_IO}
    (h : Announces s p) : Explained s p := by
  obtain rfl | ⟨q, rfl⟩ := h
  · exact explained_refl s
  · exact explained_trigger .rda (setDr (s.enqueue q))

/-- What follows an accepted sink call is explained from before the call. -/
theorem explained_after_sink {s : Uart.State E_SIG E_IO} {c : SinkCall}
    {p : Uart.State E_SIG E_IO × Resp E_SIG E_IO} (hok : sinkAnswer s c = .ok) (h : Explained (callSink s c) p) :
    Explained s p := by
  obtain ⟨calls, htrace, hcalls⟩ := h
  exact ⟨_, by simpa [hok] using htrace, explains_sinkEvent_ok hcalls c⟩

theorem explained_sink_err {s : Uart.State E_SIG E_IO} {c : SinkCall} {e : E_IO} (herr : sinkAnswer s c = .err e) :
    Explained s (callSink s c, .errIo e) :=
  ⟨_, callSink_trace s c, herr ▸ explains_sinkEvent_err c e⟩

theorem explained_transmit (v : Byte) (s : Uart.State E_SIG E_IO) : Explained s (transmit v s) := by
  obtain ⟨_, herr, heq⟩ | ⟨_, hwrite, herr, heq⟩ | ⟨hwrite, hflush, heq⟩ := transmit_cases v s <;> rw [heq]
  · exact explained_sink_err herr
  · exact explained_after_sink hwrite (explained_sink_err herr)
  · exact explained_after_sink hwrite (explained_after_sink hflush (explained_trigger .thre _))

/-- Announcing data calls no sink, so it cannot fail with ERR_IO. -/
theorem announces_resp {s : Uart.State E_SIG E_IO} {p : Uart.State E_SIG E_IO × Resp E_SIG E_IO}
    (h : Announces s p) (e : E_IO) : p.2 ≠ .errIo e := by
  obtain rfl | ⟨q, rfl⟩ := h
  · simp
  · exact trigger_resp _ _ e

/-- A write or an injection completes from steps whose calls account for its status; ERR_SIGNAL is for the two that
trigger, ERR_IO for the data write outside loopback (R105). -/
theorem write_explained {i : Instr} (hwrite : i.isRead = false) (s : State) :
    ∃ p, exec i s = complete p ∧ Explained s p ∧
      (∀ e, p.2 = .errSignal e → (∃ v, i = .wrThr v) ∨ ∃ b, i = .inj b) ∧
      (∀ e, p.2 = .errIo e → (∃ v, i = .wrThr v) ∧ s.mcr[4] = false) := by
  obtain ⟨v, rfl⟩ | ⟨b, rfl⟩ | ⟨hthr, hinj⟩ := calling_cases i
  · obtain ⟨p, hexec, ⟨-, hp⟩ | ⟨hnormal, rfl⟩⟩ := exec_wrThr_cases v s
    · exact ⟨p, hexec, explained_announces hp, fun _ _ => .inl ⟨v, rfl⟩, fun e he => absurd he (announces_resp hp e)⟩
    · exact ⟨_, hexec, explained_transmit v s, fun _ _ => .inl ⟨v, rfl⟩, fun _ _ => ⟨⟨v, rfl⟩, hnormal⟩⟩
  · obtain ⟨p, hexec, hp⟩ := announces_inj b s
    exact ⟨p, hexec, explained_announces hp, fun _ _ => .inr ⟨b, rfl⟩, fun e he => absurd he (announces_resp hp e)⟩
  · obtain ⟨q, hq, hexec⟩ := exec_otherWrite hwrite hthr hinj s
    exact ⟨(q, .ok), hexec, ⟨[], by simp [hq], explains_nil⟩, nofun, nofun⟩

/-! ### Reading back (R96, R97, R100) -/

/-- A read that answers the register `reg` answers `v` where `reg` holds it, and still does in a state that kept it. -/
theorem reads_back {i : Instr} {reg : State → Byte} {t u : State} {v : Byte} {kept : Prop}
    (hread : ∀ s, exec i s = .next (s.responded (.rdata (reg s)))) (hstored : reg t = v)
    (hkept : kept → reg u = reg t) :
    exec i t = .next (t.responded (.rdata v)) ∧ (kept → exec i u = .next (u.responded (.rdata v))) := by
  subst hstored
  exact ⟨hread t, fun h => hkept h ▸ hread u⟩

end Machine

open Machine

/-- Settles O47: the two calling transactions by their frame; the others store at most a register named in their own
equation, of which only the data read's is LSR, at data-ready alone. -/
theorem fixedBitsNeverChange : Obligations.FixedBitsNeverChange := by
  intro i s t h
  have hclear : ∀ b : Byte, withoutDr b &&& 0xFE#8 = b &&& 0xFE#8 := by decide
  cases i with
  | wrThr v =>
    obtain ⟨-, hframe⟩ := callFrame_wrThr h
    exact hframe
  | inj b =>
    obtain ⟨-, hframe⟩ := callFrame_inj h
    exact hframe
  | rdRbr =>
    rw [exec_rdRbr] at h
    cases h
    refine ⟨?_, rfl, rfl, rfl⟩
    rw [Uart.State.responded_lsr, Uart.State.setLsr_lsr]
    split
    · exact hclear s.lsr
    · rfl
  | wrDll | wrDlm | wrIer | wrIir | wrLcr | wrMcr | wrLsr | wrMsr | wrScr | wrNop | rdDll | rdDlm | rdIer | rdIir
  | rdLcr | rdMcr | rdLsr | rdMsr | rdScr | rdNop =>
    cases h
    exact ⟨rfl, rfl, rfl, rfl⟩

/-- Settles O48: as O47; a store's own register is excepted by the statement. -/
theorem registersChangeOnlyByTheirTransactions : Obligations.RegistersChangeOnlyByTheirTransactions := by
  intro i s t h
  cases i with
  | wrThr v =>
    obtain ⟨⟨hdll, hdlm, hier, hlcr, hmcr, hscr⟩, -⟩ := callFrame_wrThr h
    simp [hdll, hdlm, hier, hlcr, hmcr, hscr]
  | inj b =>
    obtain ⟨⟨hdll, hdlm, hier, hlcr, hmcr, hscr⟩, -⟩ := callFrame_inj h
    simp [hdll, hdlm, hier, hlcr, hmcr, hscr]
  | rdRbr =>
    rw [exec_rdRbr] at h
    cases h
    simp
  | rdIir =>
    rw [exec_rdIir] at h
    cases h
    simp
  | wrDll | wrDlm | wrIer | wrIir | wrLcr | wrMcr | wrLsr | wrMsr | wrScr | wrNop | rdDll | rdDlm | rdIer | rdLcr
  | rdMcr | rdLsr | rdMsr | rdScr | rdNop =>
    cases h
    simp

/-- Settles O49: a byte joins the queue only below the cap, and an announcement leaves the queue alone. -/
theorem loopbackWriteRespectsCap : Obligations.LoopbackWriteRespectsCap := by
  intro v s t hloop h
  rw [exec_wrThr_loopback hloop] at h
  obtain rfl := next_of_complete h
  rw [Uart.State.responded_rxq]
  obtain ⟨hroom, heq⟩ | ⟨-, -, heq⟩ | ⟨-, -, heq⟩ := loopbackWrite_cases v s <;> rw [heq]
  · have hqueue : (announceData (s.enqueue [v])).1.rxq = s.rxq ++ [v] := trigger_rxq _ _
    rw [hqueue, List.length_append, List.length_singleton]
    exact ⟨fun _ => by omega, fun hfull => by omega⟩
  · have hqueue : (announceData s).1.rxq = s.rxq := trigger_rxq _ _
    rw [hqueue]
    exact ⟨id, fun _ => rfl⟩
  · exact ⟨id, fun _ => rfl⟩

/-- Settles O50: a transmission offers its byte; announcements and all other transactions call no sink. -/
theorem sinkIsOfferedDataWritesOnly : Obligations.SinkIsOfferedDataWritesOnly := by
  intro i s t h
  obtain ⟨v, rfl⟩ | ⟨b, rfl⟩ | ⟨hthr, hinj⟩ := calling_cases i
  · obtain ⟨p, hexec, hp⟩ := exec_wrThr_cases v s
    rw [hexec] at h
    obtain rfl := next_of_complete h
    rw [sinkBytes_responded]
    obtain ⟨hloop, hp⟩ | ⟨hnormal, rfl⟩ := hp
    · exact ⟨by simp [hloop], fun _ => sinkBytes_announces hp⟩
    · refine ⟨?_, fun hmode => ?_⟩
      · rintro w ⟨⟩ -
        exact sinkBytes_transmit v s
      · have hloop := hmode v rfl
        simp [hnormal] at hloop
  · obtain ⟨p, hexec, hp⟩ := announces_inj b s
    rw [hexec] at h
    obtain rfl := next_of_complete h
    rw [sinkBytes_responded]
    exact ⟨nofun, fun _ => sinkBytes_announces hp⟩
  · obtain ⟨r, htrace⟩ := quiet_trace hthr hinj h
    rw [htrace]
    exact ⟨fun v hv => absurd hv (hthr v), fun _ => sinkBytes_responded s r⟩

/-- Settles O45: each of the two calling transactions makes one trigger at most, of the cause that its mode has; the
others are seen to respond and nothing else. -/
theorem oneTransactionTriggersAtMostOneCause : Obligations.OneTransactionTriggersAtMostOneCause := by
  intro i s t h
  obtain ⟨v, rfl⟩ | ⟨b, rfl⟩ | ⟨hthr, hinj⟩ := calling_cases i
  · obtain ⟨p, hexec, hp⟩ := exec_wrThr_cases v s
    rw [hexec] at h
    obtain rfl := next_of_complete h
    rw [signalCount_responded, Uart.State.responded_iir, ← iirThre_eq, ← iirThre_eq, ← iirRda_eq, ← iirRda_eq]
    obtain ⟨hloop, hp⟩ | ⟨hnormal, rfl⟩ := hp
    · obtain ⟨hother, -⟩ := outstandingIn_announces hp
      exact ⟨signalCount_announces_le hp, fun hne => absurd rfl (hne v), fun _ _ _ => hother, by simp [hloop], nofun⟩
    · obtain ⟨hother, -⟩ := outstandingIn_transmit v s
      exact ⟨signalCount_transmit_le v s, fun hne => absurd rfl (hne v), by simp [hnormal], fun _ _ _ => hother,
        nofun⟩
  · obtain ⟨p, hexec, hp⟩ := announces_inj b s
    rw [hexec] at h
    obtain rfl := next_of_complete h
    rw [signalCount_responded, Uart.State.responded_iir, ← iirThre_eq, ← iirThre_eq]
    obtain ⟨hother, -⟩ := outstandingIn_announces hp
    exact ⟨signalCount_announces_le hp, fun _ hne => absurd rfl (hne b), nofun, nofun, fun _ _ => hother⟩
  · obtain ⟨r, htrace⟩ := quiet_trace hthr hinj h
    have hcount : signalCount t.trace = signalCount s.trace := by
      rw [htrace]
      exact signalCount_responded s r
    exact ⟨by omega, fun _ _ => hcount, fun v hv => absurd hv (hthr v), fun v hv => absurd hv (hthr v),
      fun b hb => absurd hb (hinj b)⟩

/-- A transaction other than the two acknowledging reads keeps every outstanding cause: a trigger does, and no other
transaction touches IIR (O48). -/
theorem outstandingIn_kept {i : Instr} {s t : State} (hiir : i ≠ .rdIir) (hrbr : i ≠ .rdRbr)
    (h : exec i s = .next t) (c : Cause) (hout : outstandingIn c s.iir = true) : outstandingIn c t.iir = true := by
  obtain ⟨v, rfl⟩ | ⟨b, rfl⟩ | ⟨hthr, hinj⟩ := calling_cases i
  · exact outstandingIn_wrThr h c hout
  · exact outstandingIn_inj h c hout
  · obtain ⟨-, -, -, -, -, -, -, hkept⟩ := registersChangeOnlyByTheirTransactions i s t h
    rwa [hkept hthr hinj hrbr hiir]

/-- Settles O46: the two reads by their equations, every other transaction keeps the outstanding causes. -/
theorem onlyTwoReadsAcknowledge : Obligations.OnlyTwoReadsAcknowledge := by
  intro i s t h
  by_cases hrbr : i = .rdRbr
  · subst hrbr
    obtain ⟨hrda, hthre, hseen⟩ := acknowledge_of_exec_rdRbr h
    exact ⟨fun _ hout => hthre.trans hout, fun _ hne => absurd rfl hne, nofun, fun _ => ⟨hrda, hthre, hseen⟩⟩
  by_cases hiir : i = .rdIir
  · subst hiir
    exact ⟨fun hne => absurd rfl hne, fun hne => absurd rfl hne, fun _ => acknowledge_of_exec_rdIir h, nofun⟩
  have hthre := outstandingIn_kept hiir hrbr h .thre
  have hrda := outstandingIn_kept hiir hrbr h .rda
  rw [iirThre_eq, iirThre_eq] at hthre
  rw [iirRda_eq, iirRda_eq] at hrda
  exact ⟨fun _ => hthre, fun _ _ => hrda, fun hi => absurd hi hiir, fun hi => absurd hi hrbr⟩

/-- Settles O51: the write's equation stores the byte, the read's answers it, and a transaction in between keeps it
(O48). -/
theorem writtenRegistersReadBack : Obligations.WrittenRegistersReadBack := by
  intro v i s t u hu
  obtain ⟨hdll, hdlm, hier, hlcr, hmcr, hscr, -⟩ := registersChangeOnlyByTheirTransactions i t u hu
  refine ⟨fun ht => ?_, fun ht => ?_, fun ht => ?_, fun ht => ?_, fun ht => ?_, fun ht => ?_⟩ <;> cases ht
  · exact reads_back exec_rdLcr rfl hlcr
  · exact reads_back exec_rdMcr rfl hmcr
  · exact reads_back exec_rdScr rfl hscr
  · exact reads_back exec_rdDll rfl hdll
  · exact reads_back exec_rdDlm rfl hdlm
  · exact reads_back exec_rdIer rfl hier

/-- Settles O41: a read answers its byte with no call before it, a write the status its calls account for. -/
theorem responsesFollowTheCalls : Obligations.ResponsesFollowTheCalls := by
  refine ⟨fun i s => ?_, fun r => ?_⟩
  · cases hkind : i.isRead with
    | true =>
      obtain ⟨hread, -⟩ := otherTransactionsCannotFail i s
      obtain ⟨b, t, hexec, htrace⟩ := hread hkind
      exact ⟨t, [], .rdata b, hexec, by simp [htrace], by simp, fun _ => ⟨b, rfl⟩, by simp⟩
    | false =>
      obtain ⟨p, hexec, ⟨calls, htrace, hcalls, hsignal, hio⟩, hsource⟩ := write_explained hkind s
      exact ⟨_, calls, _, hexec, by simp [htrace], hcalls, by simp, fun _ => ⟨p.2, rfl, hsignal, hio, hsource⟩⟩
  · cases r <;> simp [statusCode]

end Sys2Proof
end

section
/-! SUPPORT. Relational proofs. A map of states that commutes with the shared operations commutes with the transactions
made of them; the three noninterference statements are this at three maps: the trace put in front (log 7), the idle bits
zeroed (R26 to R28, R30, R32, R34), the error payloads renamed (R10, D11). -/

namespace Sys2Proof

/-- The transactions that read or write one of the registers that a write stores: DLL, DLM, IER, LCR, MCR, SCR. -/
def Instr.namesStored : Instr → Bool
  | .wrDll _ | .wrDlm _ | .wrIer _ | .wrLcr _ | .wrMcr _ | .wrScr _ => true
  | .rdDll | .rdDlm | .rdIer | .rdLcr | .rdMcr | .rdScr => true
  | .wrThr _ | .wrIir _ | .wrLsr _ | .wrMsr _ | .wrNop _ _ | .inj _ => false
  | .rdRbr | .rdIir | .rdLsr | .rdMsr | .rdNop _ => false

namespace Machine

variable {E_SIG E_IO E_SIG' E_IO' : Type}

theorem exec_eq_execAt (i : Instr) (s : State) : exec i s = execAt i s := by
  cases i <;> rfl

/-! ### Renaming nothing -/

@[simp] theorem relabelAnswer_id {E : Type} (a : Answer E) : relabelAnswer id a = a := by
  cases a <;> rfl

@[simp] theorem relabel_response_id (r : Response E_SIG E_IO) : r.relabel id id = r := by
  rcases r with b | (_ | e | e) <;> rfl

/-! ### Maps that commute with the shared operations -/

section Commuting

variable (f : E_SIG → E_SIG') (g : E_IO → E_IO') (listed : Prop)
  (F : Uart.State E_SIG E_IO → Uart.State E_SIG' E_IO')

/-- `F` keeps what the transactions that name no stored register look at, and commutes with what they do, while the
payloads are renamed by `f` and `g`. When `listed` holds it need do so for a capability call that a listed answer
serves only. -/
structure Commutes : Prop where
  iir : ∀ s, (F s).iir = s.iir
  lsr : ∀ s, (F s).lsr = s.lsr
  rxq : ∀ s, (F s).rxq = s.rxq
  params : ∀ s, (F s).params = s.params
  loopMode : ∀ s, (F s).loopMode = s.loopMode
  enabledIn : ∀ c s, enabledIn c (F s).ier = enabledIn c s.ier
  msrValue : ∀ s, msrValue (F s) = msrValue s
  setIir : ∀ s v, (F s).setIir v = F (s.setIir v)
  setLsr : ∀ s v, (F s).setLsr v = F (s.setLsr v)
  setRxq : ∀ s q, (F s).setRxq q = F (s.setRxq q)
  responded : ∀ s r, (F s).responded (r.relabel f g) = F (s.responded r)
  signal : ∀ s, (listed → s.signalAnswers ≠ []) →
    signalAnswer (F s) = relabelAnswer f (signalAnswer s) ∧ callSignal (F s) = F (callSignal s)
  sink : ∀ s c, (listed → s.sinkAnswers ≠ []) →
    sinkAnswer (F s) c = relabelAnswer g (sinkAnswer s c) ∧ callSink (F s) c = F (callSink s c)

/-- `F` commutes with every transaction's operations: it keeps the stored registers as well. -/
structure CommutesWhole : Prop extends Commutes f g listed F where
  dll : ∀ s, (F s).dll = s.dll
  dlm : ∀ s, (F s).dlm = s.dlm
  ier : ∀ s, (F s).ier = s.ier
  lcr : ∀ s, (F s).lcr = s.lcr
  mcr : ∀ s, (F s).mcr = s.mcr
  scr : ∀ s, (F s).scr = s.scr
  setDll : ∀ s v, (F s).setDll v = F (s.setDll v)
  setDlm : ∀ s v, (F s).setDlm v = F (s.setDlm v)
  setIer : ∀ s v, (F s).setIer v = F (s.setIer v)
  setLcr : ∀ s v, (F s).setLcr v = F (s.setLcr v)
  setMcr : ∀ s v, (F s).setMcr v = F (s.setMcr v)
  setScr : ∀ s v, (F s).setScr v = F (s.setScr v)

/-- The same status with its payload renamed. -/
def relabelResp : Resp E_SIG E_IO → Resp E_SIG' E_IO'
  | .ok => .ok
  | .errSignal e => .errSignal (f e)
  | .errIo e => .errIo (g e)

/-- Where a transaction's steps, with the status they give, are taken by `F`. -/
def carry (p : Uart.State E_SIG E_IO × Resp E_SIG E_IO) : Uart.State E_SIG' E_IO' × Resp E_SIG' E_IO' :=
  (F p.1, relabelResp f g p.2)

/-- From `F s` the transaction does what it does from `s`, up to `F`. -/
def Tracks (i : Instr) (s : Uart.State E_SIG E_IO) : Prop := ∃ t, execAt i s = .next t ∧ execAt i (F s) = .next (F t)

end Commuting

theorem relabel_status (f : E_SIG → E_SIG') (g : E_IO → E_IO') (q : Resp E_SIG E_IO) :
    (Response.status q).relabel f g = .status (relabelResp f g q) := by
  cases q <;> rfl

theorem relabelResp_respOfSignal (f : E_SIG → E_SIG') (g : E_IO → E_IO') (a : Answer E_SIG) :
    relabelResp f g (respOfSignal a) = respOfSignal (relabelAnswer f a) := by
  cases a <;> rfl

namespace Commutes

variable {f : E_SIG → E_SIG'} {g : E_IO → E_IO'} {listed : Prop}
  {F : Uart.State E_SIG E_IO → Uart.State E_SIG' E_IO'} (hF : Commutes f g listed F) {s : Uart.State E_SIG E_IO}

include hF

/-! ### One equation per shared operation -/

theorem trigger_eq (c : Cause) (hsignal : listed → s.signalAnswers ≠ []) :
    trigger c (F s) = carry f g F (trigger c s) := by
  have hfires : fires c (F s) = fires c s := by rw [fires, fires, hF.enabledIn, hF.iir]
  obtain ⟨hf, heq⟩ | ⟨hf, heq⟩ := trigger_cases c s <;> rw [heq]
  · exact trigger_absorbed (hfires.trans hf)
  · have hmark : addCause c (F s) = F (addCause c s) := by rw [addCause, hF.setIir, hF.iir, addCause]
    obtain ⟨hanswer, -⟩ := hF.signal s hsignal
    obtain ⟨-, hcall⟩ := hF.signal (addCause c s) hsignal
    rw [trigger_fired (hfires.trans hf), hmark, hcall, hanswer, ← relabelResp_respOfSignal f g]
    rfl

theorem enqueue_eq (q : List Byte) : (F s).enqueue q = F (s.enqueue q) := by
  rw [Uart.State.enqueue, hF.setRxq, hF.rxq, Uart.State.enqueue]

theorem announceData_eq (hsignal : listed → s.signalAnswers ≠ []) :
    announceData (F s) = carry f g F (announceData s) := by
  rw [Machine.announceData_eq, hF.lsr, hF.setLsr]
  exact hF.trigger_eq .rda hsignal

theorem loopbackWrite_eq (v : Byte) (hsignal : listed → s.signalAnswers ≠ []) :
    loopbackWrite v (F s) = carry f g F (loopbackWrite v s) := by
  rw [loopbackWrite, loopbackWrite, hF.rxq, hF.params, hF.enqueue_eq]
  split
  · exact hF.announceData_eq hsignal
  · split
    · exact hF.announceData_eq hsignal
    · rfl

theorem injectBytes_eq (b : List Byte) (hsignal : listed → s.signalAnswers ≠ []) :
    injectBytes b (F s) = carry f g F (injectBytes b s) := by
  rw [injectBytes, injectBytes, hF.params, hF.enqueue_eq]
  split
  · rfl
  · exact hF.announceData_eq hsignal

theorem transmit_eq (v : Byte) (hsignal : listed → s.signalAnswers ≠ []) (hsink : listed → 2 ≤ s.sinkAnswers.length) :
    transmit v (F s) = carry f g F (transmit v s) := by
  have hfirst : listed → s.sinkAnswers ≠ [] := fun h => List.ne_nil_of_length_pos (by have := hsink h; omega)
  have hsecond : listed → (callSink s (.write v)).sinkAnswers ≠ [] := fun h =>
    List.ne_nil_of_length_pos (by have := hsink h; rw [callSink_sinkAnswers, List.length_tail]; omega)
  obtain ⟨hwrite, hcallWrite⟩ := hF.sink s (.write v) hfirst
  obtain ⟨hflush, hcallFlush⟩ := hF.sink (callSink s (.write v)) .flush hsecond
  rw [← hcallWrite] at hflush hcallFlush
  obtain ⟨e, ha, heq⟩ | ⟨e, ha, hb, heq⟩ | ⟨ha, hb, heq⟩ := transmit_cases v s <;> rw [heq, transmit]
  · rw [hwrite, ha, hcallWrite]
    rfl
  · rw [hwrite, ha, hflush, hb, hcallFlush]
    rfl
  · rw [hwrite, ha, hflush, hb, hcallFlush]
    exact hF.trigger_eq .thre hsignal

theorem dataRead_eq :
    clearDrIfDrained (delCause .rda (F s)).dequeue = F (clearDrIfDrained (delCause .rda s).dequeue) := by
  have hpopped : (delCause .rda (F s)).dequeue = F (delCause .rda s).dequeue := by
    rw [delCause, hF.setIir, hF.iir, Uart.State.dequeue, hF.setRxq, hF.rxq]
    rfl
  rw [hpopped, clearDrIfDrained_eq, clearDrIfDrained_eq, hF.setLsr, hF.lsr, hF.rxq]

/-! ### The transactions that name no stored register -/

theorem tracks_complete {i : Instr} {p : Uart.State E_SIG E_IO × Resp E_SIG E_IO} (h : execAt i s = complete p)
    (hF' : execAt i (F s) = complete (carry f g F p)) : Tracks F i s := by
  refine ⟨_, h, hF'.trans ?_⟩
  rw [complete_eq, carry, ← relabel_status, hF.responded]
  rfl

theorem tracks_returnByte {i : Instr} {b : Byte} {q : Uart.State E_SIG E_IO} (h : execAt i s = returnByte b q)
    (hF' : execAt i (F s) = returnByte b (F q)) : Tracks F i s :=
  ⟨_, h, hF'.trans (congrArg Host.Outcome.next (hF.responded q (.rdata b)))⟩

theorem tracks {i : Instr} (hi : i.namesStored = false) (hsignal : listed → 1 ≤ s.signalAnswers.length)
    (hsink : listed → 2 ≤ s.sinkAnswers.length) : Tracks F i s := by
  have hsignal' : listed → s.signalAnswers ≠ [] := fun h => List.ne_nil_of_length_pos (hsignal h)
  cases i with
  | wrThr v =>
    refine hF.tracks_complete rfl ?_
    rw [execAt, execWrThr, hF.loopMode, hF.loopbackWrite_eq v hsignal', hF.transmit_eq v hsignal' hsink]
    split <;> rfl
  | inj b =>
    refine hF.tracks_complete rfl ?_
    rw [execAt, execInj, hF.loopMode, hF.injectBytes_eq b hsignal']
    split <;> rfl
  | rdRbr =>
    refine hF.tracks_returnByte rfl ?_
    rw [execAt, execRdRbr, hF.dataRead_eq, Uart.State.front, hF.rxq]
    rfl
  | rdIir =>
    refine hF.tracks_returnByte rfl ?_
    rw [execAt, execRdIir, hF.iir, resetIirCauses, hF.setIir]
    rfl
  | rdLsr =>
    refine hF.tracks_returnByte rfl ?_
    rw [execAt, execRdLsr, hF.lsr]
  | rdMsr =>
    refine hF.tracks_returnByte rfl ?_
    rw [execAt, execRdMsr, hF.msrValue]
  | rdNop off => exact hF.tracks_returnByte rfl rfl
  | wrIir | wrLsr | wrMsr | wrNop => exact hF.tracks_complete rfl rfl
  | wrDll | wrDlm | wrIer | wrLcr | wrMcr | wrScr | rdDll | rdDlm | rdIer | rdLcr | rdMcr | rdScr => cases hi

end Commutes

/-- A map that keeps the stored registers as well commutes with every transaction. -/
theorem CommutesWhole.tracks {f : E_SIG → E_SIG'} {g : E_IO → E_IO'} {listed : Prop}
    {F : Uart.State E_SIG E_IO → Uart.State E_SIG' E_IO'} (hF : CommutesWhole f g listed F)
    {s : Uart.State E_SIG E_IO} (i : Instr) (hsignal : listed → 1 ≤ s.signalAnswers.length)
    (hsink : listed → 2 ≤ s.sinkAnswers.length) : Tracks F i s := by
  have hC := hF.toCommutes
  cases i with
  | wrDll v => exact hC.tracks_complete rfl (congrArg (fun t => complete (t, .ok)) (hF.setDll s v))
  | wrDlm v => exact hC.tracks_complete rfl (congrArg (fun t => complete (t, .ok)) (hF.setDlm s v))
  | wrIer v => exact hC.tracks_complete rfl (congrArg (fun t => complete (t, .ok)) (hF.setIer s _))
  | wrLcr v => exact hC.tracks_complete rfl (congrArg (fun t => complete (t, .ok)) (hF.setLcr s v))
  | wrMcr v => exact hC.tracks_complete rfl (congrArg (fun t => complete (t, .ok)) (hF.setMcr s v))
  | wrScr v => exact hC.tracks_complete rfl (congrArg (fun t => complete (t, .ok)) (hF.setScr s v))
  | rdDll => exact hC.tracks_returnByte rfl (congrArg (returnByte · (F s)) (hF.dll s))
  | rdDlm => exact hC.tracks_returnByte rfl (congrArg (returnByte · (F s)) (hF.dlm s))
  | rdIer => exact hC.tracks_returnByte rfl (congrArg (returnByte · (F s)) (hF.ier s))
  | rdLcr => exact hC.tracks_returnByte rfl (congrArg (returnByte · (F s)) (hF.lcr s))
  | rdMcr => exact hC.tracks_returnByte rfl (congrArg (returnByte · (F s)) (hF.mcr s))
  | rdScr => exact hC.tracks_returnByte rfl (congrArg (returnByte · (F s)) (hF.scr s))
  | wrThr | wrIir | wrLsr | wrMsr | wrNop | inj | rdRbr | rdIir | rdLsr | rdMsr | rdNop =>
    exact hC.tracks rfl hsignal hsink

/-! ### The trace put in front (log 7) -/

/-- `s` with `seen` seen before what its trace shows. -/
def Uart.State.seenBefore (seen : List (Event E_SIG E_IO)) (s : Uart.State E_SIG E_IO) : Uart.State E_SIG E_IO :=
  { s with trace := seen ++ s.trace }

theorem commutesWhole_seenBefore (seen : List (Event E_SIG E_IO)) :
    CommutesWhole id id False (Uart.State.seenBefore seen) := by
  constructor
  case toCommutes =>
    constructor
    case responded => intro s r; simp [Uart.State.seenBefore, Uart.State.responded]
    case signal => intro s _; simp [Uart.State.seenBefore, callSignal, signalAnswer]
    case sink => intro s c _; simp [Uart.State.seenBefore, callSink, sinkAnswer]
    all_goals intros; rfl
  all_goals intros; rfl

/-- Nothing has to be seen for a state to be what it is. -/
theorem seenBefore_trace (s : Uart.State E_SIG E_IO) :
    Uart.State.seenBefore s.trace { s with trace := [] } = s := by
  simp [Uart.State.seenBefore]

/-- A transaction adds to what was seen and does not look at it. -/
theorem exec_afterSeeing (i : Instr) (s : State) :
    exec i s = afterSeeing s.trace (exec i { s with trace := [] }) := by
  obtain ⟨t, ht, hseen⟩ := (commutesWhole_seenBefore s.trace).tracks (s := { s with trace := [] }) i nofun nofun
  rw [seenBefore_trace] at hseen
  rw [exec_eq_execAt, exec_eq_execAt, ht, hseen]
  rfl

/-! ### The idle bits zeroed -/

theorem commutes_withoutIdleBits :
    Commutes (E_SIG := E_SIG) (E_IO := E_IO) id id False Uart.State.withoutIdleBits := by
  have hloop : ∀ b : Byte, (b &&& 0x1F#8 &&& mcrLoop != 0#8) = (b &&& mcrLoop != 0#8) := by decide
  have henable : ∀ c, ∀ b : Byte, enabledIn c (b &&& 0x03#8) = enabledIn c b := by
    intro c
    cases c <;> decide
  have hmsr : ∀ b : Byte, loopbackMsr (b &&& 0x1F#8) = loopbackMsr b := by decide
  constructor
  case responded => intro s r; rw [relabel_response_id]; rfl
  case signal => intro s _; rw [relabelAnswer_id]; exact ⟨rfl, rfl⟩
  case sink => intro s c _; rw [relabelAnswer_id]; exact ⟨rfl, rfl⟩
  case loopMode => exact fun s => hloop s.mcr
  case enabledIn => exact fun c s => henable c s.ier
  case msrValue =>
    intro s
    rw [msrValue, msrValue, Uart.State.loopMode, Uart.State.withoutIdleBits_mcr, hloop, hmsr]
    rfl
  all_goals intros; rfl

theorem withoutIdleBits_idem (s : Uart.State E_SIG E_IO) : s.withoutIdleBits.withoutIdleBits = s.withoutIdleBits := by
  simp [Uart.State.withoutIdleBits, BitVec.and_assoc]

/-! ### The error payloads renamed (R10, D11) -/

theorem commutesWhole_relabel (f : E_SIG → E_SIG') (g : E_IO → E_IO') :
    CommutesWhole f g True (Uart.State.relabel f g) := by
  constructor
  case toCommutes =>
    constructor
    case responded => exact fun s r => (s.emit_relabel f g (.response r)).symm
    case signal =>
      intro s hlisted
      obtain ⟨a, l, h⟩ := List.exists_cons_of_ne_nil (hlisted trivial)
      simp [signalAnswer, callSignal, Uart.State.relabel, Event.relabel, h]
    case sink =>
      intro s c hlisted
      obtain ⟨a, l, h⟩ := List.exists_cons_of_ne_nil (hlisted trivial)
      cases c <;> simp [sinkAnswer, callSink, sinkEvent, Uart.State.relabel, Event.relabel, h]
    all_goals intros; rfl
  all_goals intros; rfl

end Machine

open Machine

/-- Settles O53: both steps take the same input, and a transaction only adds to the trace. -/
theorem traceSteersNothing : Obligations.TraceSteersNothing := by
  intro s
  obtain ⟨hp, -⟩ | ⟨rest, hp, -⟩ | ⟨r, rest, i, hp, hw, hd, -⟩ | ⟨r, rest, hp, hw, hd, -⟩ | ⟨r, rest, hp, hw, -⟩ :=
    fetch_cases s
  · rw [step_idle hp, step_idle (s := { s with trace := [] }) hp]
    exact congrArg Host.Outcome.next (seenBefore_trace s).symm
  · rw [step_signalAccessor hp, step_signalAccessor (s := { s with trace := [] }) hp]
    exact congrArg Host.Outcome.next (seenBefore_trace (s.setPending rest)).symm
  · rw [step_run hp hw hd, step_run (s := { s with trace := [] }) hp hw hd]
    exact exec_afterSeeing i (s.setPending rest)
  · rw [step_reserved hp hw hd, step_reserved (s := { s with trace := [] }) hp hw hd]
    rfl
  · rw [step_otherWidth hp hw, step_otherWidth (s := { s with trace := [] }) hp hw]
    rfl

/-- Settles O52: the zeroed bits are not looked at by a transaction that names none of those registers, and a write
stores the same byte in both states. -/
theorem storedOnlyBitsHaveNoEffect : Obligations.StoredOnlyBitsHaveNoEffect := by
  intro i s
  have hdlab : ∀ b : Byte, (b &&& 0x80#8 &&& lcrDlab != 0#8) = (b &&& lcrDlab != 0#8) := by decide
  refine ⟨fun r => ?_, fun hdll hdlm hier hlcr hmcr hscr => ?_⟩
  · rw [descriptorOf, Uart.State.dlabSet, Uart.State.withoutIdleBits_lcr, hdlab]
    rfl
  cases hi : i.namesStored with
  | false =>
    obtain ⟨t, ht, hidle⟩ := commutes_withoutIdleBits.tracks (s := s) hi nofun nofun
    exact ⟨t, t.withoutIdleBits, exec_eq_execAt i s ▸ ht, exec_eq_execAt i _ ▸ hidle, withoutIdleBits_idem t⟩
  | true =>
    cases i with
    | wrDll | wrDlm | wrIer | wrLcr | wrMcr | wrScr =>
      refine ⟨_, _, rfl, rfl, ?_⟩
      simp [Uart.State.withoutIdleBits, Uart.State.emit, Uart.State.setDll, Uart.State.setDlm, Uart.State.setIer,
        Uart.State.setLcr, Uart.State.setMcr, Uart.State.setScr, BitVec.and_assoc]
    | rdDll => exact absurd rfl hdll
    | rdDlm => exact absurd rfl hdlm
    | rdIer => exact absurd rfl hier
    | rdLcr => exact absurd rfl hlcr
    | rdMcr => exact absurd rfl hmcr
    | rdScr => exact absurd rfl hscr
    | wrThr | wrIir | wrLsr | wrMsr | wrNop | inj | rdRbr | rdIir | rdLsr | rdMsr | rdNop => cases hi

/-- Settles O57: renaming commutes with every transaction whose calls are served by listed answers. -/
theorem errorPayloadsSteerNothing : Obligations.ErrorPayloadsSteerNothing := by
  refine ⟨exec_eq_execAt, fun E_SIG E_IO E_SIG' E_IO' f g i s hsignal hsink => ?_⟩
  obtain ⟨t, ht, hrelabel⟩ := (commutesWhole_relabel f g).tracks i (fun _ => hsignal) fun _ => hsink
  rw [hrelabel, ht]
  rfl

end Sys2Proof
end

section
/-! SUPPORT. Proofs about runs of any length, by induction on the bytes still to be read or written (R35, R54, R81, R93,
R131). -/

namespace Sys2Proof

namespace Machine

/-! ### Data reads (R93) -/

/-- One `rd DATA` with DLAB clear and a byte queued answers the byte and leaves the rest of the queue. -/
theorem step_dataRead {s : State} {b : Byte} {q : List Byte} {rest : List Input} (hp : s.pending = rd 0#8 :: rest)
    (hdlab : s.lcr[7] = false) (hq : s.rxq = b :: q) :
    ∃ t, step s = .next t ∧ t.pending = rest ∧ t.lcr = s.lcr ∧ t.rxq = q ∧
      t.trace = s.trace ++ [.response (.rdata b)] := by
  rw [step_rd hp, hdlab]
  exact ⟨_, exec_rdRbr (s.setPending rest), rfl, rfl, by simp [hq], by simp [Uart.State.front, hq]⟩

/-- As many `rd DATA` as bytes are queued. -/
theorem run_dataReads (q : List Byte) {s : State} {rest : List Input} (hdlab : s.lcr[7] = false) (hq : s.rxq = q)
    (hp : s.pending = List.replicate q.length (rd 0#8) ++ rest) :
    ∃ t, Host.Core.run Sys2Proof.core q.length s = .next t ∧ t.rxq = [] ∧ t.pending = rest ∧
      t.trace = s.trace ++ q.map (fun b => .response (.rdata b)) := by
  induction q generalizing s with
  | nil => exact ⟨s, run_zero s, hq, hp, (List.append_nil _).symm⟩
  | cons b q ih =>
    obtain ⟨t, hstep, hpt, hlcr, hqt, htrace⟩ := step_dataRead hp hdlab hq
    obtain ⟨u, hrun, hqu, hpu, hseen⟩ := ih (hlcr ▸ hdlab) hqt hpt
    exact ⟨u, (run_succ hstep).trans hrun, hqu, hpu, by rw [hseen, htrace, List.append_assoc]; rfl⟩

/-! ### Data writes in loopback (R81) -/

/-- A `wr DATA, v` with DLAB clear leaves the registers that decide the next one, and the inputs behind it. -/
theorem step_dataWrite {s : State} {v : Byte} {rest : List Input} (hp : s.pending = wr 0#8 v :: rest)
    (hdlab : s.lcr[7] = false) :
    ∃ t, step s = .next t ∧ exec (.wrThr v) (s.setPending rest) = .next t ∧ t.pending = rest ∧ t.lcr = s.lcr ∧
      t.mcr = s.mcr ∧ t.ier = s.ier := by
  have hstep : step s = exec (.wrThr v) (s.setPending rest) := by
    rw [step_wr hp, hdlab]
    rfl
  obtain ⟨t, ht⟩ := exec_next (.wrThr v) (s.setPending rest)
  obtain ⟨⟨-, -, hier, hlcr, hmcr, -⟩, -, -, -, hpending⟩ := callFrame_wrThr ht
  exact ⟨t, hstep.trans ht, ht, hpending, hlcr, hmcr, hier⟩

theorem readBytes_trigger {E_SIG E_IO : Type} (c : Cause) (s : Uart.State E_SIG E_IO) :
    readBytes (trigger c s).1.trace = readBytes s.trace := by
  obtain ⟨-, heq⟩ | ⟨-, heq⟩ := trigger_cases c s <;> rw [heq]
  simp [readBytes_append, readBytes, addCause]

/-- Below the cap a loopback write queues its byte and is seen to read nothing and to send nothing. -/
theorem loopbackWrite_queues {v : Byte} {s t : State} (h : exec (.wrThr v) s = .next t) (hloop : s.mcr[4] = true)
    (hroom : s.rxq.length < 64) :
    t.rxq = s.rxq ++ [v] ∧ readBytes t.trace = readBytes s.trace ∧ sinkBytes t.trace = sinkBytes s.trace := by
  rw [exec_wrThr_loopback hloop, loopbackWrite_of_room hroom, announceData] at h
  obtain rfl := next_of_complete h
  refine ⟨trigger_rxq _ _, ?_, ?_⟩
  · rw [Uart.State.responded_trace, readBytes_append, readBytes_trigger]
    exact List.append_nil _
  · rw [sinkBytes_responded, sinkBytes_trigger]
    rfl

/-- Writes that fit below the cap queue their bytes in order. -/
theorem run_loopbackWrites (b : List Byte) {s : State} {rest : List Input} (hloop : s.mcr[4] = true)
    (hdlab : s.lcr[7] = false) (hroom : s.rxq.length + b.length ≤ 64)
    (hp : s.pending = b.map (fun v => wr 0#8 v) ++ rest) :
    ∃ t, Host.Core.run Sys2Proof.core b.length s = .next t ∧ t.pending = rest ∧ t.lcr = s.lcr ∧
      t.rxq = s.rxq ++ b ∧ readBytes t.trace = readBytes s.trace ∧ sinkBytes t.trace = sinkBytes s.trace := by
  induction b generalizing s with
  | nil => exact ⟨s, run_zero s, hp, rfl, (List.append_nil _).symm, rfl, rfl⟩
  | cons v b ih =>
    rw [List.length_cons] at hroom
    obtain ⟨t, hstep, hexec, hpt, hlcr, hmcr, -⟩ := step_dataWrite hp hdlab
    obtain ⟨hqueue, hread, hsink⟩ :=
      loopbackWrite_queues hexec hloop (by rw [Uart.State.setPending_rxq]; omega)
    rw [Uart.State.setPending_rxq] at hqueue
    rw [← hmcr] at hloop
    rw [← hlcr] at hdlab
    obtain ⟨u, hrun, hpu, hlcru, hqu, hreadu, hsinku⟩ :=
      ih hloop hdlab (by rw [hqueue, List.length_append, List.length_singleton]; omega) hpt
    exact ⟨u, (run_succ hstep).trans hrun, hpu, hlcru.trans hlcr, by rw [hqu, hqueue, List.append_assoc]; rfl,
      hreadu.trans hread, hsinku.trans hsink⟩

theorem readBytes_responses {E_SIG E_IO : Type} (q : List Byte) :
    readBytes (q.map (fun b => (.response (.rdata b) : Event E_SIG E_IO))) = q := by
  induction q with
  | nil => rfl
  | cons b q ih => rw [List.map_cons, readBytes, ih]

theorem sinkBytes_responses {E_SIG E_IO : Type} (q : List Byte) :
    sinkBytes (q.map (fun b => (.response (.rdata b) : Event E_SIG E_IO))) = [] := by
  induction q with
  | nil => rfl
  | cons b q ih => rw [List.map_cons, sinkBytes, ih]

/-! ### Data writes outside loopback (R81, R131) -/

theorem trigger_sinkAnswers {E_SIG E_IO : Type} (c : Cause) (s : Uart.State E_SIG E_IO) :
    (trigger c s).1.sinkAnswers = s.sinkAnswers := by
  obtain ⟨_, _, _, _, h⟩ := trigger_frame c s
  rw [h]

/-- After its triggering event an enabled cause is outstanding, whether it was before or not (R111). -/
theorem outstandingIn_trigger_enabled {E_SIG E_IO : Type} {c : Cause} {s : Uart.State E_SIG E_IO}
    (henabled : enabledIn c s.ier = true) : outstandingIn c (trigger c s).1.iir = true := by
  obtain ⟨hf, heq⟩ | ⟨-, heq⟩ := trigger_cases c s <;> rw [heq]
  · simpa [fires, henabled] using hf
  · exact outstandingIn_addCause c s

/-- An accepted data write with THRE enabled leaves THRE outstanding, signals it unless it already was, and offers its
byte. -/
theorem transmit_accepted {v : Byte} {s t : State} {l : List (Answer IoError)} (h : exec (.wrThr v) s = .next t)
    (hnormal : s.mcr[4] = false) (hier : s.ier[1] = true) (hanswers : s.sinkAnswers = .ok :: .ok :: l) :
    t.sinkAnswers = l ∧ t.iir[1] = true ∧
      signalCount t.trace = signalCount s.trace + (if s.iir[1] = false then 1 else 0) ∧
      sinkBytes t.trace = sinkBytes s.trace ++ [v] := by
  have hwrite : sinkAnswer s (.write v) = .ok := by rw [sinkAnswer, hanswers]
  have hflush : sinkAnswer (callSink s (.write v)) .flush = .ok := by
    rw [sinkAnswer, callSink_sinkAnswers, hanswers]
    rfl
  have htransmit := transmit_of_ok hwrite hflush
  have hcount := signalCount_transmit hwrite hflush
  have hbytes := sinkBytes_transmit v s
  rw [exec_wrThr_normal hnormal] at h
  obtain rfl := next_of_complete h
  refine ⟨?_, ?_, ?_, ?_⟩
  · rw [Uart.State.responded_sinkAnswers, htransmit, trigger_sinkAnswers]
    simp [hanswers]
  · rw [Uart.State.responded_iir, htransmit, ← iirThre_eq]
    exact outstandingIn_trigger_enabled ((ierThre_eq _).trans hier)
  · rw [signalCount_responded, hcount]
    simp [hier]
  · rw [sinkBytes_responded, hbytes]

/-- One `wr DATA, v` outside loopback, with THRE enabled and both sink answers listed as ok; the next state meets the
same hypotheses. -/
theorem step_transmit {v : Byte} {s : State} {rest : List Input} {l : List (Answer IoError)}
    (hp : s.pending = wr 0#8 v :: rest) (hnormal : s.mcr[4] = false) (hdlab : s.lcr[7] = false)
    (hier : s.ier[1] = true) (hanswers : s.sinkAnswers = .ok :: .ok :: l) :
    ∃ t, step s = .next t ∧ (t.pending = rest ∧ t.mcr[4] = false ∧ t.lcr[7] = false ∧ t.ier[1] = true ∧
        t.sinkAnswers = l) ∧ t.iir[1] = true ∧
      signalCount t.trace = signalCount s.trace + (if s.iir[1] = false then 1 else 0) ∧
      sinkBytes t.trace = sinkBytes s.trace ++ [v] := by
  obtain ⟨t, hstep, hexec, hpt, hlcr, hmcr, hiert⟩ := step_dataWrite hp hdlab
  obtain ⟨hrest, hseen⟩ := transmit_accepted hexec hnormal hier hanswers
  rw [← hmcr] at hnormal
  rw [← hlcr] at hdlab
  rw [← hiert] at hier
  exact ⟨t, hstep, ⟨hpt, hnormal, hdlab, hier, hrest⟩, hseen⟩

/-- Two answers for each byte. -/
theorem replicate_twice_cons {α : Type} (v : Byte) (b : List Byte) (a : α) :
    List.replicate ((v :: b).length + (v :: b).length) a = a :: a :: List.replicate (b.length + b.length) a := by
  have hlength : (v :: b).length + (v :: b).length = b.length + b.length + 1 + 1 := by
    rw [List.length_cons]
    omega
  rw [hlength, List.replicate_succ, List.replicate_succ]

/-- While THRE stays outstanding, accepted data writes signal nothing and offer their bytes in order. -/
theorem run_transmits_outstanding (b : List Byte) {s : State} {rest : List Input} (hnormal : s.mcr[4] = false)
    (hdlab : s.lcr[7] = false) (hier : s.ier[1] = true) (hthre : s.iir[1] = true)
    (hanswers : s.sinkAnswers = List.replicate (b.length + b.length) .ok)
    (hp : s.pending = b.map (fun v => wr 0#8 v) ++ rest) :
    ∃ t, Host.Core.run Sys2Proof.core b.length s = .next t ∧ t.pending = rest ∧ t.iir[1] = true ∧
      signalCount t.trace = signalCount s.trace ∧ sinkBytes t.trace = sinkBytes s.trace ++ b := by
  induction b generalizing s with
  | nil => exact ⟨s, run_zero s, hp, hthre, rfl, (List.append_nil _).symm⟩
  | cons v b ih =>
    rw [replicate_twice_cons] at hanswers
    obtain ⟨t, hstep, ⟨hpt, hnormalt, hdlabt, hiert, hrest⟩, hthret, hcount, hbytes⟩ :=
      step_transmit hp hnormal hdlab hier hanswers
    obtain ⟨u, hrun, hpu, hthreu, hcountu, hbytesu⟩ := ih hnormalt hdlabt hiert hthret hrest hpt
    refine ⟨u, (run_succ hstep).trans hrun, hpu, hthreu, ?_, by rw [hbytesu, hbytes, List.append_assoc]; rfl⟩
    rw [hcountu, hcount]
    simp [hthre]

end Machine

open Machine

/-- Settles O54: each read leaves one byte less queued and as many reads to go as bytes. -/
theorem dataReadsReturnQueueInOrder : Obligations.DataReadsReturnQueueInOrder :=
  fun s rest hdlab => run_dataReads s.rxq (rest := rest) (s := { s with pending := _ }) hdlab rfl rfl

/-- Settles O55: the writes fill the queue, which the reads of O54 then empty. -/
theorem loopbackReturnsWrittenBytesInOrder : Obligations.LoopbackReturnsWrittenBytesInOrder := by
  intro s b rest hloop hdlab hempty hfits
  obtain ⟨t, hrun, hpt, hlcr, hqueue, hread, hsink⟩ :=
    run_loopbackWrites b
      (s := { s with pending := b.map (fun v => wr 0#8 v) ++ (List.replicate b.length (rd 0#8) ++ rest) })
      hloop hdlab (by simpa [hempty] using hfits) rfl
  have hqt : t.rxq = b := by simpa [hempty] using hqueue
  obtain ⟨u, hrunu, hqu, hpu, htrace⟩ := run_dataReads b (hlcr ▸ hdlab) hqt hpt
  refine ⟨u, (run_add hrun).trans hrunu, hqu, hpu, ?_, ?_⟩
  · rw [htrace, readBytes_append, hread, readBytes_responses]
  · rw [htrace, sinkBytes_append, hsink, sinkBytes_responses]
    exact List.append_nil _

/-- Settles O56: the first write signals and leaves THRE outstanding, under which the others signal nothing. -/
theorem unacknowledgedThreSignalsOnce : Obligations.UnacknowledgedThreSignalsOnce := by
  intro s b rest hnormal hdlab hier hthre hne hanswers
  obtain ⟨v, b, rfl⟩ := List.exists_cons_of_ne_nil hne
  rw [replicate_twice_cons] at hanswers
  obtain ⟨t, hstep, ⟨hpt, hnormalt, hdlabt, hiert, hrest⟩, hthret, hcount, hbytes⟩ :=
    step_transmit (s := { s with pending := (v :: b).map (fun v => wr 0#8 v) ++ rest }) rfl hnormal hdlab hier hanswers
  obtain ⟨u, hrun, hpu, hthreu, hcountu, hbytesu⟩ :=
    run_transmits_outstanding b hnormalt hdlabt hiert hthret hrest hpt
  refine ⟨u, (run_succ hstep).trans hrun, hpu, hthreu, ?_, by rw [hbytesu, hbytes, List.append_assoc]; rfl⟩
  rw [hcountu, hcount]
  simp [hthre]

end Sys2Proof
end
